-- ==== Sys2Proof/Word.lean ====
section
/-! DEFINITION. The words of the part: 32-bit trunk and data words, bytes of a tap port, and 16-bit saturating counts. -/

namespace Sys2Proof

/-- A word: 32 bits of data, or a trunk word address (00_scope, Terms). -/
abbrev Word := BitVec 32

/-- A byte on a tap port's data pins (R191). -/
abbrev Byte := BitVec 8

/-- A 16-bit count that saturates at 65535 (R22, R93, R139, R185). -/
abbrev Count := BitVec 16

/-- A tag, 0 to 63 (R151). -/
abbrev Tag := BitVec 6

end Sys2Proof
end

