-- ==== Sys2Proof/Syntax.lean ====
section
/-! DEFINITION. The commands of the block: one constructor of Instr for each row of spec/opcode_table.json, with its operands. -/

namespace Sys2Proof

/-- The two trunk ports (R169). -/
inductive PortId where
  | upper
  | lower
deriving DecidableEq, Repr

/-- The two attention inputs of a tap (R91). -/
inductive LineId where
  | A
  | B
deriving DecidableEq, Repr

/-- A line character that belongs to a packet (R187): packet start with the header word, packet word, packet end with
its payload, whose bits 15–0 are the check sequence. -/
inductive PacketChar where
  | start (header : Word)
  | word (w : Word)
  | stop (payload : Word)
deriving DecidableEq, Repr

/-- What happens on the exchange pins of a tap (R73, R191): TtACK rises with the kind on TtAK1 and TtAK0, the device
drives one data byte on TtD, or the part releases TtD behind the last byte of a request and looks at TtACK again. -/
inductive TapInput where
  | strobe (kind : BitVec 2)
  | dataByte (b : Byte)
  | release
deriving DecidableEq, Repr

/-- The commands. A row that names a port, a tap, a record or a line takes it as its operand; a symbol row takes the
payload of the character received; a row that begins a management operation takes its operands from the management
record at the head of the management queue (R129), so it has none of its own. -/
inductive Instr where
  | powerUpReset
  | resetAsserted
  | packetReceived (port : PortId) (chars : List PacketChar)
  | helloReceived (port : PortId) (payload : Word)
  | creditReceived (port : PortId) (payload : Word)
  | idleReceived (port : PortId) (payload : Word)
  | damagedSymbolReceived (port : PortId)
  | helloPeriod (port : PortId)
  | trainingRestart (port : PortId)
  | silenceTimeout (port : PortId)
  | sendCredit (port : PortId)
  | classifyPacket
  | lowerSend
  | arbiterSend
  | examineHead (tap : Fin 4)
  | tapAcknowledge (tap : Fin 4) (input : TapInput)
  | ackTimeout (tap : Fin 4)
  | retryTimerExpiry (tap : Fin 4)
  | waitTimerExpiry (index : Fin 16)
  | attentionLineAsserted (tap : Fin 4) (line : LineId)
  | attentionLineReleased (tap : Fin 4) (line : LineId)
  | reAnnounce
  | verifyBankComplete
  | unknownOperation
  | readIdentity
  | readBranchStatus
  | readRecord
  | readCounters
  | writeEntry
  | readEntry
  | clearBank
  | setMissAction
  | verifyBank
  | openBank
  | selectBank
  | clearHitCounts
  | tapEnable
  | tapDisable
  | tapRecover
  | setTapLines
  | readTapStatus
  | setWatch
  | disarmWatch
  | readWatch
  | releaseHold
  | discardHold
  | readHeldRequest
  | readAttention
  | clearAttention
  | setAttentionEnables
  | acknowledgeAttention
  | setParameter
  | readParameter
  | branchReset
deriving DecidableEq, Repr

end Sys2Proof
end

