-- ==== Sys2Proof/Decode.lean ====
section
/-! DEFINITION. The command that a word of the opcode table spells. No row of spec/opcode_table.json gives bits. -/

namespace Sys2Proof

/-- Every row of spec/opcode_table.json has an empty "fields" list and no "fixed" bits, so no word spells a command
(log 21). -/
def decodeTableWord (_nbits _w : Nat) : Option Instr := none

end Sys2Proof
end

