-- ==== Sys2Proof/Config.lean ====
section
/-! DEFINITION. The free values: what the spec leaves open and each implementation decides. None has a value that Lean can see. -/

namespace Sys2Proof

/-- Credits owed after a slot is freed while credits owed stands at 8, the top of its range (R169, R179), at the n-th
time this happens at a port: only a partner that sends beyond its credit brings this about, and the spec gives no value
(log 11). -/
opaque Config.owedPastEight (n : Nat) : Fin 9

/-- Whether a byte that arrives while several transfers of DONE data are in progress at a tap belongs to each of them, or
to the oldest alone (R191 is silent; log 12). -/
opaque Config.transfersShareBytes : Bool

/-- Whether Write Entry examines the value behind a presence bit of 0, refusing one that is not 0 (R11 and R189
together leave it open; log 15). -/
opaque Config.examinesAbsentField : Bool

/-- Whether "records held" of Read Tap Status has the width of a queue count (4) or of a count 0 to 16 (5): R189
gives both widths and names neither for it (log 16). -/
opaque Config.recordsHeldIsQueueCount : Bool

/-- The local base used for an entry that has none, or is empty; no record of a reachable state names such an entry
(R15, R23; log 17). -/
opaque Config.unstatedLocalBase : BitVec 24

/-- The tap of a CLAIM entry that names none; no active bank of a reachable state holds one (R15; log 17). -/
opaque Config.unstatedTap : Fin 4

end Sys2Proof
end

