-- ==== Sys2Proof/Machine/State.lean ====
section
/-! DEFINITION. The state of the part, block by block, as plain data, its values after power-up reset, and the reasons a step could stop. -/

namespace Sys2Proof.Machine

/-! ### Names (R2, R8, R49 to R53, R71, R166, R167, R171, R188) -/

/-- The kind of a request (R151). -/
inductive Kind where
  | read
  | write
deriving DecidableEq, Repr

/-- The completion codes of the catalogue, in the order of their values 0 to 23 (R166, R167, R188). -/
inductive Code where
  | ok
  | refused
  | denied
  | tooLong
  | boundary
  | noRoute
  | tapDisabled
  | tapFault
  | tagInUse
  | queueFull
  | branchFull
  | tapTimeout
  | deviceError
  | deviceBusy
  | waitExpired
  | discarded
  | mgmtBusy
  | badOperation
  | badOperand
  | wrongState
  | bankInUse
  | notVerified
  | verifyFailed
  | staleSequence
deriving DecidableEq, Repr

/-- The two banks (R1). -/
inductive BankId where
  | A
  | B
deriving DecidableEq, Repr

/-- The states of a bank (R8). -/
inductive BankState where
  | opened
  | verified
  | active
deriving DecidableEq, Repr

/-- The action of a window entry (R2). -/
inductive Action where
  | claim
  | pass
  | reject
deriving DecidableEq, Repr

/-- The miss action of a bank (R6). -/
inductive MissAction where
  | pass
  | reject
deriving DecidableEq, Repr

/-- The states of an allocated transaction record (R50). -/
inductive TransState where
  | queued
  | issued
  | retryWait
  | held
  | answered
deriving DecidableEq, Repr

/-- The states of an allocated management record (R53). -/
inductive MgmtState where
  | waiting
  | executing
  | answered
deriving DecidableEq, Repr

/-- The states of a tap (R71). -/
inductive TapState where
  | disabled
  | idle
  | issued
  | retryWait
  | held
  | faulted
deriving DecidableEq, Repr

/-- The link states of a port (R171). -/
inductive LinkState where
  | down
  | training
  | up
deriving DecidableEq, Repr

/-- The four sources of the upper transmit arbiter, in their fixed order (R181). -/
inductive Source where
  | mgmtResponses
  | localResponses
  | refusals
  | lowerRx
deriving DecidableEq, Repr

/-! ### Packets (R151, R188) -/

/-- A READ or WRITE. `length` is the length field; `data` is a WRITE's data words, empty for a READ; `reserved` is bits
16–0 of the header, kept as received. -/
structure Request where
  kind : Kind
  tag : Tag
  address : Word
  length : Nat
  data : List Word
  reserved : BitVec 17
deriving DecidableEq, Repr

/-- A MGMT. `reserved` is bits 5–0 of the header. -/
structure MgmtPacket where
  hop : BitVec 4
  tag : Tag
  operation : BitVec 8
  operands : List Word
  reserved : BitVec 6
deriving DecidableEq, Repr

/-- A packet of a downward kind. -/
inductive Down where
  | request (r : Request)
  | mgmt (m : MgmtPacket)
deriving DecidableEq, Repr

/-- A packet of an upward kind, each with the reserved bits of its header; the list words of an ATTN are kept whole. -/
inductive Up where
  | readDone (tag : Tag) (code : Code) (data : List Word) (reserved : BitVec 11)
  | writeDone (tag : Tag) (code : Code) (reserved : BitVec 16)
  | mgmtDone (tag : Tag) (depth : BitVec 4) (code : Code) (result : List Word) (reserved : BitVec 8)
  | attn (depth : BitVec 4) (sequence : BitVec 8) (setList newList : Word) (reserved : BitVec 16)
deriving DecidableEq, Repr

/-- A packet in the lower transmit queue, marked as a drain packet or not (R43, R169). -/
structure QueuedPass where
  packet : Down
  drain : Bool
deriving DecidableEq, Repr

/-- The three shapes of a refusal (R38). -/
inductive RefusalKind where
  | readDone
  | writeDone
  | mgmtDone
deriving DecidableEq, Repr

/-- A refusal: an answer with no record behind it (R38). -/
structure Refused where
  kind : RefusalKind
  tag : Tag
  code : Code
deriving DecidableEq, Repr

/-- What a port's transmit pair last carried; IDLE fills the line between items while the port is not DOWN (R170). -/
inductive LineItem where
  | silent
  | hello (ready : Bool)
  | credit
  | down (p : Down)
  | up (p : Up)
deriving DecidableEq, Repr

/-! ### Trunk ports (R169, R185) -/

/-- A timer: the microseconds left to count, or stopped (R184). -/
abbrev Timer := Option Nat

/-- The seven counters of a port (R185). -/
structure PortCounters where
  received : Count
  checkFailures : Count
  malformed : Count
  misdirected : Count
  overruns : Count
  excessCredits : Count
  retrains : Count
deriving DecidableEq, Repr

/-- A trunk port, but for its buffers, which stand in State (R169). `draws` is the model's own: how many free values of
credits owed have been taken (log 11). -/
structure Port where
  state : LinkState
  credit : Nat
  capacity : Nat
  owed : Nat
  draws : Nat
  run : Nat
  reachedThree : Bool
  readySeen : Bool
  readySent : Bool
  helloTimer : Timer
  trainTimer : Timer
  silence : Timer
  failRun : Nat
  counters : PortCounters
  tx : LineItem
deriving DecidableEq, Repr

/-! ### Classifier (R26) -/

/-- The stall condition with the decision it holds (R26): the pass that waits for the lower transmit queue, or the
refusal that waits for the refusal queue. No decision is held when the classifier is not stalled. -/
inductive Stall where
  | none
  | onLower (held : Down)
  | onRefusal (held : Refused)
deriving DecidableEq, Repr

/-- The classifier (R26). -/
structure Classifier where
  stall : Stall
  paused : Bool
  refusals : List Refused
deriving DecidableEq, Repr

/-! ### Window tables (R1, R2) -/

/-- A valid entry of a bank (R2). -/
structure Window where
  base : Word
  sizeExponent : Nat
  action : Action
  tap : Option (Fin 4)
  localBase : Option (BitVec 24)
  permitsRead : Bool
  permitsWrite : Bool
  maxLength : Option Nat
  hits : Count
deriving DecidableEq, Repr

/-- A bank: an entry that is `none` is empty, and its hit count is 0 (R1). -/
structure Bank where
  entries : Vector (Option Window) 32
  missAction : MissAction
  state : BankState
  refs : Nat
deriving DecidableEq, Repr

/-- The window tables; `selector` is `none` for NONE (R1). -/
structure Windows where
  bankA : Bank
  bankB : Bank
  selector : Option BankId
deriving DecidableEq, Repr

/-! ### Record table (R48, R49, R52) -/

/-- An allocated transaction record (R49). -/
structure TransRecord where
  state : TransState
  tag : Tag
  kind : Kind
  address : Word
  length : Nat
  bank : BankId
  entry : Fin 32
  tap : Fin 4
  writeData : Option (List Word)
  readData : Option (List Word)
  code : Option Code
  retryCount : Nat
  hold : Bool
  waitRemaining : Timer
  orphan : Bool
deriving DecidableEq, Repr

/-- The completion code and result words of an ANSWERED management record (R52). -/
structure MgmtAnswer where
  code : Code
  result : List Word
deriving DecidableEq, Repr

/-- An allocated management record (R52). -/
structure MgmtRecord where
  state : MgmtState
  tag : Tag
  operation : BitVec 8
  operands : List Word
  answer : Option MgmtAnswer
  orphan : Bool
deriving DecidableEq, Repr

/-- The record table; `none` is FREE. Its lists are oldest first (R48, R54, R55, R57). -/
structure RecordTable where
  trans : Vector (Option TransRecord) 16
  mgmt : Vector (Option MgmtRecord) 3
  localResponses : List (Fin 16)
  mgmtQueue : List (Fin 3)
  mgmtResponses : List (Fin 3)
deriving DecidableEq, Repr

/-! ### Tap ports (R69, R191) -/

/-- A request presented to a tap device (R72). -/
structure TapRequest where
  kind : Kind
  localAddress : BitVec 24
  length : Nat
  data : List Word
deriving DecidableEq, Repr

/-- A transfer of DONE data in progress at a tap's port (R74, R191): bytes still to come and bytes taken, oldest first. -/
structure Transfer where
  left : Nat
  got : List Byte
deriving DecidableEq, Repr

/-- The five counters of a tap port (R93). -/
structure TapCounters where
  issues : Count
  retries : Count
  timeouts : Count
  late : Count
  waitExpiries : Count
deriving DecidableEq, Repr

/-- A tap port (R69). `driving` is yes while the part drives TtD with the bytes of the presented request, and `rises` are
the kinds of the rises of TtACK that wait for it to release TtD, oldest first (R191). `transfers` are the transfers of DONE
data in progress, oldest first. `sampledA` and `sampledB` say that the line has been sampled since power-up, `nowA` and
`nowB` that its sample of the present microsecond has been taken (R91). -/
structure Tap where
  state : TapState
  disablePending : Bool
  queue : List (Fin 16)
  ackTimer : Timer
  retryTimer : Timer
  presented : Option TapRequest
  driving : Bool
  rises : List (BitVec 2)
  transfers : List Transfer
  mode0 : Bool
  mode1 : Bool
  lineA : Bool
  lineB : Bool
  sampledA : Bool
  sampledB : Bool
  nowA : Bool
  nowB : Bool
  counters : TapCounters
deriving DecidableEq, Repr

/-! ### Watch unit (R98) -/

/-- A watch entry; `tap` is `none` for ANY, and `hold` is the action HOLD (R98). -/
structure Watch where
  armed : Bool
  low : Word
  high : Word
  reads : Bool
  writes : Bool
  tap : Option (Fin 4)
  hold : Bool
  oneShot : Bool
  hits : Count
deriving DecidableEq, Repr

/-! ### Attention unit (R113, R115) -/

/-- The pending attention packet (R116, R118). -/
structure AttnPacket where
  sequence : BitVec 8
  setList : BitVec 17
  newList : BitVec 17
deriving DecidableEq, Repr

/-- The attention unit. Bit n of each mask is flag n (R113); `newList` is the announced new-list, present exactly in
ANNOUNCED (R115). -/
structure Attention where
  flagsSet : BitVec 17
  flagsEnabled : BitVec 17
  flagsAnnounced : BitVec 17
  sequence : BitVec 8
  newList : Option (BitVec 17)
  timer : Timer
  packet : Option AttnPacket
deriving DecidableEq, Repr

/-! ### Management unit (R128, R141, R142) -/

/-- The ten parameters (R142). -/
structure Params where
  ackLimit : Vector Nat 4
  retryLimit : Nat
  retryDelay : Nat
  waitLimit : Nat
  reannounce : Nat
  clearWhileHeld : Bool
  lowerEnable : Bool
deriving DecidableEq, Repr

/-- The management unit (R128); the operation in progress is the EXECUTING management record. -/
structure Mgmt where
  resetPending : Bool
  params : Params
  refusals : Count
  depthOverflows : Count
  reAnnounces : Count
deriving DecidableEq, Repr

/-! ### The part -/

/-- The state of the part (INVENTORY.md, State) and the queue of commands waiting. -/
structure State where
  resetLow : Bool
  timeBase : Nat
  upper : Port
  lower : Port
  upperRx : List Down
  lowerRx : List Up
  lowerTx : List QueuedPass
  pointer : Source
  classifier : Classifier
  windows : Windows
  records : RecordTable
  taps : Vector Tap 4
  watches : Vector Watch 2
  attention : Attention
  mgmt : Mgmt
  pending : List Instr
deriving DecidableEq, Repr

/-- No constructor: the spec gives no event after which the part stops, so no command ends in a fault (NOTES.md, Stops). -/
inductive Fault where
deriving DecidableEq, Repr

/-- Why a command has no meaning. -/
inductive Refusal where
  /-- Raised by exec's arms alone, for a command of the opcode table that has no meaning yet; safe, since no next state
  is claimed. No arm raises it now. -/
  | notModelled (mnemonic : String)
deriving DecidableEq, Repr

/-! ### Power-up reset (R24, R26, R48, R95, R112, R126, R128, R142, R186) -/

def PortCounters.zero : PortCounters := ⟨0, 0, 0, 0, 0, 0, 0⟩

def TapCounters.zero : TapCounters := ⟨0, 0, 0, 0, 0⟩

/-- The lower port after power-up reset: DOWN and silent (R186). The partner's capacity is DESIGN CHOICE 1 (log 9), and
`draws` DESIGN CHOICE 0 (log 11); the training marks clear, the run 0 and the check-failure run 0 are DESIGN CHOICE too,
R186 giving the marks for the upper port alone (log 29). -/
def Port.resetLower : Port :=
  { state := .down, credit := 0, capacity := 1, owed := 0, draws := 0, run := 0, reachedThree := false,
    readySeen := false, readySent := false, helloTimer := none, trainTimer := none, silence := none, failRun := 0,
    counters := .zero, tx := .silent }

/-- The upper port after power-up reset: TRAINING, its first HELLO, ready no, sent as the reset is released (R186). -/
def Port.resetUpper : Port :=
  { Port.resetLower with state := .training, helloTimer := some 10, trainTimer := some 64, tx := .hello false }

/-- A bank after power-up reset (R24). -/
def Bank.atReset : Bank :=
  { entries := .replicate 32 none, missAction := .pass, state := .opened, refs := 0 }

/-- The record table with every record FREE and every list empty (R48, R67). -/
def RecordTable.empty : RecordTable :=
  { trans := .replicate 16 none, mgmt := .replicate 3 none, localResponses := [], mgmtQueue := [],
    mgmtResponses := [] }

/-- A tap port after power-up reset (R95). -/
def Tap.atReset : Tap :=
  { state := .disabled, disablePending := false, queue := [], ackTimer := none, retryTimer := none,
    presented := none, driving := false, rises := [], transfers := [], mode0 := false, mode1 := false, lineA := false,
    lineB := false, sampledA := false, sampledB := false, nowA := false, nowB := false, counters := .zero }

/-- A watch after power-up reset (R112). -/
def Watch.atReset : Watch :=
  { armed := false, low := 0, high := 0, reads := true, writes := true, tap := none, hold := false,
    oneShot := false, hits := 0 }

/-- The attention unit after power-up reset and after a branch reset (R126, R127). -/
def Attention.atReset : Attention :=
  { flagsSet := 0, flagsEnabled := 0, flagsAnnounced := 0, sequence := 0, newList := none, timer := none,
    packet := none }

/-- The reset values of the parameters (R142). -/
def Params.atReset : Params :=
  { ackLimit := .replicate 4 1000, retryLimit := 3, retryDelay := 50, waitLimit := 0, reannounce := 0,
    clearWhileHeld := false, lowerEnable := false }

/-- The part right after power-up reset has been taken, in the event in which RSTIN is released (R191). -/
def State.reset : State :=
  { resetLow := false
    timeBase := 0
    upper := .resetUpper
    lower := .resetLower
    upperRx := []
    lowerRx := []
    lowerTx := []
    pointer := .mgmtResponses
    classifier := { stall := .none, paused := false, refusals := [] }
    windows := { bankA := .atReset, bankB := .atReset, selector := none }
    records := .empty
    taps := .replicate 4 .atReset
    watches := .replicate 2 .atReset
    attention := .atReset
    mgmt := { resetPending := false, params := .atReset, refusals := 0, depthOverflows := 0, reAnnounces := 0 }
    pending := [] }

end Sys2Proof.Machine
end

