-- ==== Sys2Proof/Machine/Flags.lean ====
section
/-! DEFINITION. Saturating counts, the attention flags and the announcer: setting a flag, clearing flags, making an announcement (R113 to R118). -/

namespace Sys2Proof.Machine

/-- A 16-bit count raised by n, saturating at 65535 (R22, R93, R139). -/
def addCount (c : Count) (n : Nat) : Count := BitVec.ofNat 16 (min (c.toNat + n) 65535)

/-- A 16-bit count raised by 1, saturating at 65535 (R22, R93, R139). -/
def bump (c : Count) : Count := addCount c 1

/-- The number of a tap's attention line flag (R113). -/
def lineFlag (t : Fin 4) : LineId → Nat
  | .A => 4 * t.val
  | .B => 4 * t.val + 1

/-- The number of a tap's FAULT flag (R113). -/
def faultFlag (t : Fin 4) : Nat := 4 * t.val + 2

/-- The number of a tap's HELD flag (R113). -/
def heldFlag (t : Fin 4) : Nat := 4 * t.val + 3

/-- The number of LOWER_LINK (R113). -/
def lowerLinkFlag : Nat := 16

/-- The mask that names one flag: bit n names flag n (R189). -/
def flagMask (n : Nat) : BitVec 17 := 1#17 <<< n

/-- The flags that are set, enabled and unannounced (R116). -/
def Attention.eligible (a : Attention) : BitVec 17 :=
  a.flagsSet &&& a.flagsEnabled &&& ~~~a.flagsAnnounced

/-- The announcer is QUIET when it holds no announced new-list (R115). -/
def Attention.quiet (a : Attention) : Bool := a.newList.isNone

/-- A flag's cause: a clear flag becomes set and unannounced, a set flag stays as it is (R114). -/
def Attention.latch (a : Attention) (mask : BitVec 17) : Attention :=
  { a with flagsSet := a.flagsSet ||| mask
           flagsAnnounced := a.flagsAnnounced &&& ~~~(mask &&& ~~~a.flagsSet) }

/-- The flags of the mask become clear and unannounced (R121, R122). -/
def Attention.clear (a : Attention) (mask : BitVec 17) : Attention :=
  { a with flagsSet := a.flagsSet &&& ~~~mask, flagsAnnounced := a.flagsAnnounced &&& ~~~mask }

/-- The length of the re-announce timer: 1000 steps a millisecond, stopped for an interval of 0 (R116, R120, R184). -/
def reannounceTimer (interval : Nat) : Timer := if interval = 0 then none else some (1000 * interval)

/-- The announcement: the packet becomes pending, its new-list announced and kept, and the timer starts (R116). -/
def Attention.announce (a : Attention) (interval : Nat) : Attention :=
  { a with flagsAnnounced := a.flagsAnnounced ||| a.eligible
           newList := some a.eligible
           timer := reannounceTimer interval
           packet := some { sequence := a.sequence, setList := a.flagsSet &&& a.flagsEnabled, newList := a.eligible } }

/-- An announcement is made when the announcer is QUIET, the upper port UP and some flag eligible (R116). -/
def State.mayAnnounce (s : State) : Bool :=
  s.attention.quiet && s.upper.state == .up && s.attention.eligible != 0

/-- Makes the announcement if it is due (R116, R117). -/
def State.announceIfDue (s : State) : State :=
  if s.mayAnnounce then { s with attention := s.attention.announce s.mgmt.params.reannounce } else s

/-- The cause of flag n is taken: the flag is latched, and announced if the announcer allows it (R114, R116). -/
def State.raiseFlag (s : State) (n : Nat) : State :=
  ({ s with attention := s.attention.latch (flagMask n) } : State).announceIfDue

/-- The announcer after an accepted acknowledge: QUIET, timer stopped, new-list and pending packet dropped, sequence
advanced (R119). -/
def Attention.acknowledge (a : Attention) : Attention :=
  { a with newList := none, timer := none, packet := none, sequence := a.sequence + 1 }

/-- The attention unit at an upper link loss: the sequence advances if the announcer was ANNOUNCED, and no set flag stays
announced (R124). -/
def Attention.atUpperLoss (a : Attention) : Attention :=
  { a with newList := none, timer := none, packet := none, flagsAnnounced := 0
           sequence := if a.quiet then a.sequence else a.sequence + 1 }

end Sys2Proof.Machine
end

