-- ==== Sys2Proof/Machine/Operands.lean ====
section
/-! DEFINITION. The catalogue of management operations, the unpacking of operand words with their range checks, and the packing of result words (R130, R134, R189). -/

namespace Sys2Proof.Machine

/-! ### The catalogue (R134, R189) -/

/-- The management operations (R134). -/
inductive Op where
  | readIdentity
  | readBranchStatus
  | readRecord
  | readCounters
  | writeEntry
  | readEntry
  | clearBank
  | setMissAction
  | verifyBank
  | openBank
  | selectBank
  | clearHitCounts
  | tapEnable
  | tapDisable
  | tapRecover
  | setTapLines
  | readTapStatus
  | setWatch
  | disarmWatch
  | readWatch
  | releaseHold
  | discardHold
  | readHeldRequest
  | readAttention
  | clearAttention
  | setAttentionEnables
  | acknowledgeAttention
  | setParameter
  | readParameter
  | branchReset
deriving DecidableEq, Repr

/-- The operation codes (R189). -/
def Op.code : Op → BitVec 8
  | .readIdentity => 0x01
  | .readBranchStatus => 0x02
  | .readRecord => 0x03
  | .readCounters => 0x04
  | .writeEntry => 0x11
  | .readEntry => 0x12
  | .clearBank => 0x13
  | .setMissAction => 0x14
  | .verifyBank => 0x15
  | .openBank => 0x16
  | .selectBank => 0x17
  | .clearHitCounts => 0x18
  | .tapEnable => 0x20
  | .tapDisable => 0x21
  | .tapRecover => 0x22
  | .setTapLines => 0x23
  | .readTapStatus => 0x24
  | .setWatch => 0x31
  | .disarmWatch => 0x32
  | .readWatch => 0x33
  | .releaseHold => 0x34
  | .discardHold => 0x35
  | .readHeldRequest => 0x36
  | .readAttention => 0x40
  | .clearAttention => 0x41
  | .setAttentionEnables => 0x42
  | .acknowledgeAttention => 0x43
  | .setParameter => 0x50
  | .readParameter => 0x51
  | .branchReset => 0x7E

/-- The number of operand words fixed for the operation (R134). -/
def Op.operandCount : Op → Nat
  | .readIdentity | .readBranchStatus | .branchReset => 0
  | .readRecord | .clearBank | .verifyBank | .openBank | .selectBank | .clearHitCounts => 1
  | .tapEnable | .tapDisable | .tapRecover | .readTapStatus | .disarmWatch | .readWatch => 1
  | .releaseHold | .discardHold | .readAttention | .clearAttention | .acknowledgeAttention | .readParameter => 1
  | .readCounters | .readEntry | .setMissAction | .setAttentionEnables | .setParameter => 2
  | .setTapLines | .setWatch | .readHeldRequest => 3
  | .writeEntry => 4

/-- Every operation of the catalogue. -/
def Op.catalogue : List Op :=
  [.readIdentity, .readBranchStatus, .readRecord, .readCounters, .writeEntry, .readEntry, .clearBank, .setMissAction,
   .verifyBank, .openBank, .selectBank, .clearHitCounts, .tapEnable, .tapDisable, .tapRecover, .setTapLines,
   .readTapStatus, .setWatch, .disarmWatch, .readWatch, .releaseHold, .discardHold, .readHeldRequest, .readAttention,
   .clearAttention, .setAttentionEnables, .acknowledgeAttention, .setParameter, .readParameter, .branchReset]

/-- Does the operation code name an operation of the catalogue (R130, R189)? -/
def knownOperation (code : BitVec 8) : Bool := Op.catalogue.any fun op => op.code == code

/-! ### Unpacking operand words (R189) -/

/-- The value packed at bits lo+width−1 to lo. -/
def field (w : Word) (lo width : Nat) : Nat := (w.extractLsb' lo width).toNat

/-- Are the bits from position n up all 0? -/
def clearAbove (w : Word) (n : Nat) : Bool := w.toNat < 2 ^ n

/-- A number below n as an index. -/
def index? (n v : Nat) : Option (Fin n) := if h : v < n then some ⟨v, h⟩ else none

/-- A bank operand: A 0, B 1 (R10, R189). -/
def bank? (v : Nat) : Option BankId :=
  match v with
  | 0 => some .A
  | 1 => some .B
  | _ => none

/-- A selector operand: A 0, B 1, NONE 2 (R10, R189). -/
def target? (v : Nat) : Option (Option BankId) :=
  match v with
  | 0 => some (some .A)
  | 1 => some (some .B)
  | 2 => some none
  | _ => none

/-- A window action: CLAIM 0, PASS 1, REJECT 2 (R189). -/
def action? (v : Nat) : Option Action :=
  match v with
  | 0 => some .claim
  | 1 => some .pass
  | 2 => some .reject
  | _ => none

/-- A miss action: PASS 1, REJECT 2 (R13, R189). -/
def missAction? (v : Nat) : Option MissAction :=
  match v with
  | 1 => some .pass
  | 2 => some .reject
  | _ => none

/-- A yes/no, on/off or SET/CLEAR operand (R189). -/
def flag? (v : Nat) : Option Bool :=
  match v with
  | 0 => some false
  | 1 => some true
  | _ => none

/-- A watch tap: 0 to 3, or ANY 4 (R102, R189). -/
def watchTap? (v : Nat) : Option (Option (Fin 4)) :=
  if v = 4 then some none else (index? 4 v).map some

/-- A flag mask: no bit above 16 (R121, R189). -/
def mask? (w : Word) : Option (BitVec 17) := if clearAbove w 17 then some (w.extractLsb' 0 17) else none

/-- Is the value behind a presence bit acceptable, when the presence bit is 0 (log 15)? -/
def absentOk (value : Nat) : Bool := value == 0 || !Config.examinesAbsentField

/-- The entry a Write Entry gives when its valid bit is 1, with hit count 0; `none` when an operand is out of range
(R11, R189). -/
def validEntry? (w1 w2 w3 w4 : Word) : Option Window :=
  let hasTap := w1.getLsbD 8
  let hasLocal := w1.getLsbD 9
  let hasMax := w1.getLsbD 10
  let size := field w3 0 5
  let perms := field w3 7 2
  let tap := field w3 9 3
  let max := field w3 12 5
  let localBase := field w4 0 24
  match action? (field w3 5 2) with
  | none => none
  | some action =>
    if clearAbove w1 11 ∧ clearAbove w3 17 ∧ clearAbove w4 24 ∧ 4 ≤ size ∧ size ≤ 24 ∧ perms ≠ 0
        ∧ (if hasTap then decide (tap < 4) else absentOk tap)
        ∧ (if hasLocal then true else absentOk localBase)
        ∧ (if hasMax then decide (1 ≤ max ∧ max ≤ 16) else absentOk max) then
      some { base := w2, sizeExponent := size, action,
             tap := if hasTap then index? 4 tap else none
             localBase := if hasLocal then some (BitVec.ofNat 24 localBase) else none
             permitsRead := w3.getLsbD 7, permitsWrite := w3.getLsbD 8
             maxLength := if hasMax then some max else none, hits := 0 }
    else none

/-- The operands of Write Entry: bank, index and the new entry; when valid is 0 only bank and index are examined
(R11, R189). -/
def writeEntry? (w1 w2 w3 w4 : Word) : Option (BankId × Fin 32 × Option Window) :=
  match bank? (field w1 0 2), index? 32 (field w1 2 5) with
  | some b, some i =>
    if w1.getLsbD 7 then (validEntry? w1 w2 w3 w4).map fun e => (b, i, some e) else some (b, i, none)
  | _, _ => none

/-- The operands of Set Watch: the watch and its new value, armed with hit count 0 (R102, R189). -/
def setWatch? (w1 low high : Word) : Option (Fin 2 × Watch) :=
  match watchTap? (field w1 3 3) with
  | none => none
  | some tap =>
    if clearAbove w1 8 ∧ field w1 1 2 ≠ 0 ∧ low.toNat ≤ high.toNat then
      some (if w1.getLsbD 0 then 1 else 0,
        { armed := true, low, high, reads := w1.getLsbD 1, writes := w1.getLsbD 2, tap,
          hold := w1.getLsbD 6, oneShot := w1.getLsbD 7, hits := 0 })
    else none

/-! ### Packing result words (R189) -/

/-- Values packed from bit 0 upward, each a (width, value) pair, in the order given (R189). -/
def packNat : List (Nat × Nat) → Nat
  | [] => 0
  | (width, v) :: rest => v % 2 ^ width + 2 ^ width * packNat rest

/-- A word of values packed from bit 0 upward (R189). -/
def pack (fields : List (Nat × Nat)) : Word := BitVec.ofNat 32 (packNat fields)

/-- A word that carries one value, in the low-order bits (R189). -/
def one (v : Nat) : Word := BitVec.ofNat 32 v

/-- An optional value: a presence bit and then the value, 0 when absent (R189). -/
def optionalField (width : Nat) : Option Nat → List (Nat × Nat)
  | some v => [(1, 1), (width, v)]
  | none => [(1, 0), (width, 0)]

def Kind.num : Kind → Nat
  | .read => 0
  | .write => 1

def BankId.num : BankId → Nat
  | .A => 0
  | .B => 1

def selectorNum : Option BankId → Nat
  | some b => b.num
  | none => 2

def BankState.num : BankState → Nat
  | .opened => 0
  | .verified => 1
  | .active => 2

def Action.num : Action → Nat
  | .claim => 0
  | .pass => 1
  | .reject => 2

def TapState.num : TapState → Nat
  | .disabled => 0
  | .idle => 1
  | .issued => 2
  | .retryWait => 3
  | .held => 4
  | .faulted => 5

def TransState.num : TransState → Nat
  | .queued => 1
  | .issued => 2
  | .retryWait => 3
  | .held => 4
  | .answered => 5

def MgmtState.num : MgmtState → Nat
  | .waiting => 1
  | .executing => 2
  | .answered => 3

def LinkState.num : LinkState → Nat
  | .down => 0
  | .training => 1
  | .up => 2

def Stall.num : Stall → Nat
  | .none => 0
  | .onLower _ => 1
  | .onRefusal _ => 2

/-- The clear outcome (R111, R189). -/
inductive ClearOutcome where
  | notRequested
  | cleared
  | suppressed
deriving DecidableEq, Repr

def ClearOutcome.num : ClearOutcome → Nat
  | .notRequested => 0
  | .cleared => 1
  | .suppressed => 2

/-- The reasons for which Verify Bank refuses an entry (R15). -/
inductive VerifyReason where
  | missingField
  | strayField
  | baseMisaligned
  | localMisaligned
  | localOverrun
deriving DecidableEq, Repr

def VerifyReason.num : VerifyReason → Nat
  | .missingField => 1
  | .strayField => 2
  | .baseMisaligned => 3
  | .localMisaligned => 4
  | .localOverrun => 5

end Sys2Proof.Machine
end

