-- ==== Sys2Proof/Machine/Ops.lean ====
section
/-! DEFINITION. The shared operations over the state: named updates, records and their answers, the refusal queue with its drain and stalls, link training and link loss, branch reset, the tap exchange, the beginning and end of management operations, and the time base's step. -/

namespace Sys2Proof.Machine

/-! ### Accessors and named updates -/

def State.port (s : State) : PortId → Port
  | .upper => s.upper
  | .lower => s.lower

def State.setPort (s : State) (p : PortId) (x : Port) : State :=
  match p with
  | .upper => { s with upper := x }
  | .lower => { s with lower := x }

def State.modPort (s : State) (p : PortId) (f : Port → Port) : State := s.setPort p (f (s.port p))

def State.tap (s : State) (t : Fin 4) : Tap := s.taps[t]

def State.modTap (s : State) (t : Fin 4) (f : Tap → Tap) : State := { s with taps := s.taps.set t (f s.taps[t]) }

def State.transAt (s : State) (i : Fin 16) : Option TransRecord := s.records.trans[i]

def State.setTrans (s : State) (i : Fin 16) (r : Option TransRecord) : State :=
  { s with records := { s.records with trans := s.records.trans.set i r } }

def State.mgmtAt (s : State) (i : Fin 3) : Option MgmtRecord := s.records.mgmt[i]

def State.setMgmt (s : State) (i : Fin 3) (r : Option MgmtRecord) : State :=
  { s with records := { s.records with mgmt := s.records.mgmt.set i r } }

def Windows.bank (w : Windows) : BankId → Bank
  | .A => w.bankA
  | .B => w.bankB

def Windows.setBank (w : Windows) (b : BankId) (x : Bank) : Windows :=
  match b with
  | .A => { w with bankA := x }
  | .B => { w with bankB := x }

def State.bank (s : State) (b : BankId) : Bank := s.windows.bank b

def State.modBank (s : State) (b : BankId) (f : Bank → Bank) : State :=
  { s with windows := s.windows.setBank b (f (s.windows.bank b)) }

def State.modAttention (s : State) (f : Attention → Attention) : State := { s with attention := f s.attention }

def BankId.other : BankId → BankId
  | .A => .B
  | .B => .A

/-! ### Outcomes -/

/-- The outcome of an event whose effect is `t`: while RSTIN is low the part takes no event but the reset's own
(R191, log 4). -/
def State.taken (s t : State) : Host.Outcome State Fault Refusal := .next (if s.resetLow then s else t)

/-! ### Transaction records (R49 to R51, R56, R60) -/

/-- Is the tag held by an allocated record of either kind (R56)? -/
def State.tagInUse (s : State) (tag : Tag) : Bool :=
  (s.records.trans.toList.any fun o => match o with | some r => r.tag == tag | none => false)
    || (s.records.mgmt.toList.any fun o => match o with | some r => r.tag == tag | none => false)

/-- The lowest-numbered FREE transaction record (R37). -/
def State.freeTrans? (s : State) : Option (Fin 16) := (List.finRange 16).find? fun i => (s.transAt i).isNone

/-- The lowest-numbered free management record (R30). -/
def State.freeMgmt? (s : State) : Option (Fin 3) := (List.finRange 3).find? fun i => (s.mgmtAt i).isNone

/-- The record leaves its tap's queue (R70). -/
def State.dequeue (s : State) (t : Fin 4) (i : Fin 16) : State :=
  s.modTap t fun p => { p with queue := p.queue.erase i }

/-- A record as it is answered (R51). -/
def TransRecord.answeredWith (r : TransRecord) (code : Code) (data : Option (List Word)) : TransRecord :=
  { r with state := .answered, code := some code, readData := data, waitRemaining := none }

/-- Answers a record: ANSWERED with its code, out of its tap's queue, at the tail of the local response queue (R51). -/
def State.answer (s : State) (i : Fin 16) (code : Code) (data : Option (List Word)) : State :=
  match s.transAt i with
  | none => s
  | some r =>
    let s := (s.setTrans i (some (r.answeredWith code data))).dequeue r.tap i
    { s with records := { s.records with localResponses := s.records.localResponses ++ [i] } }

/-- Answers several records one behind another (R51). -/
def State.answerAll (s : State) (is : List (Fin 16)) (code : Code) : State :=
  is.foldl (fun s i => s.answer i code none) s

/-- Frees a transaction record: its tag is released and its bank loses one reference (R60, R61). -/
def State.freeRecord (s : State) (i : Fin 16) : State :=
  match s.transAt i with
  | none => s
  | some r => (s.setTrans i none).modBank r.bank fun b => { b with refs := b.refs - 1 }

/-- The local address of a record's first word, from its bank and entry (R23). The entry of an allocated record has a
local base (R11, R15, R17); log 17 says what stands for one that has none. -/
def State.localAddress (s : State) (r : TransRecord) : BitVec 24 :=
  match (s.bank r.bank).entries[r.entry] with
  | some w =>
    BitVec.ofNat 24 ((w.localBase.getD Config.unstatedLocalBase).toNat + (r.address.toNat - w.base.toNat))
  | none => Config.unstatedLocalBase

/-! ### Credits owed, and the head of the upper receive buffer (R27, R179) -/

/-- One more credit owed; past 8, the top of its range, the value is free (R169, R179, log 11). -/
def Port.oweOne (p : Port) : Port :=
  if p.owed < 8 then { p with owed := p.owed + 1 }
  else { p with owed := (Config.owedPastEight p.draws).val, draws := p.draws + 1 }

/-- n slots of the port's receive buffer are freed: a credit is owed for each if the port is UP (R179). -/
def Port.owe (p : Port) : Nat → Port
  | 0 => p
  | n + 1 => if p.state = .up then p.oweOne.owe n else p

/-- The packet at the head of the upper receive buffer leaves it, in the event that disposes of it (R27, R179). -/
def State.disposeHead (s : State) : State :=
  { s with upperRx := s.upperRx.tail, upper := s.upper.owe 1 }

/-! ### Passes, refusals, drain and stalls (R29, R32, R38 to R44) -/

/-- The refusal formed from a packet (R38). -/
def Down.refusal (p : Down) (code : Code) : Refused :=
  match p with
  | .request r => { kind := if r.kind = .read then .readDone else .writeDone, tag := r.tag, code }
  | .mgmt m => { kind := .mgmtDone, tag := m.tag, code }

/-- A pass as it enters the lower transmit queue: a MGMT has its hop reduced by 1 (R29, R32, R40). -/
def Down.descended : Down → Down
  | .request r => .request r
  | .mgmt m => .mgmt { m with hop := m.hop - 1 }

/-- The lower transmit queue and the refusal queue hold at most 8 (R39, R169). -/
def queueCapacity : Nat := 8

/-- Do drain packets remain in the lower transmit queue (R44)? -/
def State.draining (s : State) : Bool := s.lowerTx.any fun q => q.drain

/-- The refusal queue can take a refusal of the classifier (R41, R44). -/
def State.canRefuse (s : State) : Bool := s.classifier.refusals.length < queueCapacity && !s.draining

/-- Refusals enter the tail of the refusal queue, each counted (R39, R141). -/
def State.enterRefusals (s : State) (rs : List Refused) : State :=
  { s with classifier := { s.classifier with refusals := s.classifier.refusals ++ rs }
           mgmt := { s.mgmt with refusals := addCount s.mgmt.refusals rs.length } }

/-- The decision to turn the head packet away: its refusal enters the refusal queue, or the classifier stalls holding
it (R38, R41). -/
def State.refuseHead (s : State) (r : Refused) : State :=
  if s.canRefuse then (s.enterRefusals [r]).disposeHead
  else { s with classifier := { s.classifier with stall := .onRefusal r } }

/-- A pass enters the tail of the lower transmit queue (R29, R32, R40). -/
def State.enterLower (s : State) (p : Down) : State :=
  { s with lowerTx := s.lowerTx ++ [{ packet := p.descended, drain := false }] }

/-- The decision to pass the head packet on: down, or NO_ROUTE, or a stall on the full lower transmit queue
(R29, R32, R40). -/
def State.passHead (s : State) (p : Down) : State :=
  if s.lower.state = .up then
    if s.lowerTx.length < queueCapacity then (s.enterLower p).disposeHead
    else { s with classifier := { s.classifier with stall := .onLower p } }
  else s.refuseHead (p.refusal .noRoute)

/-- The drain packets that move now: the oldest, as many as the refusal queue has free slots (R43). -/
def State.drainMoves (s : State) : List QueuedPass :=
  (s.lowerTx.takeWhile fun q => q.drain).take (queueCapacity - s.classifier.refusals.length)

/-- The drain: those packets leave the lower transmit queue, each as a NO_ROUTE refusal (R43). -/
def State.drain (s : State) : State :=
  let moves := s.drainMoves
  ({ s with lowerTx := s.lowerTx.drop moves.length } : State).enterRefusals
    (moves.map fun q => q.packet.refusal .noRoute)

/-- The end of a stall, in the event in which the queue it waits for can take the held decision (R40, R41, log 24). -/
def State.endStall (s : State) : State :=
  match s.classifier.stall with
  | .none => s
  | .onLower p =>
    if s.lowerTx.length < queueCapacity then
      (({ s with classifier := { s.classifier with stall := .none } } : State).enterLower p).disposeHead
    else s
  | .onRefusal r =>
    if s.canRefuse then
      (({ s with classifier := { s.classifier with stall := .none } } : State).enterRefusals [r]).disposeHead
    else s

/-- What follows a slot freed in either queue: the drain moves on, then a held decision may enter (R40, R41, R43). -/
def State.settle (s : State) : State := s.drain.endStall

/-! ### Link training and UP (R170 to R173) -/

/-- The lengths of the port timers in microseconds (R170, R172, R175). -/
def helloPeriod : Nat := 10
def trainingLimit : Nat := 64
def silenceLimit : Nat := 64

/-- A port entering TRAINING: marks cleared, credits 0, its first HELLO sent with ready no (R171). -/
def Port.enterTraining (p : Port) : Port :=
  { p with state := .training, credit := 0, owed := 0, run := 0, reachedThree := false, readySeen := false,
           readySent := false, helloTimer := some helloPeriod, trainTimer := some trainingLimit, silence := none,
           failRun := 0, tx := .hello false }

/-- A port entering DOWN: silent, with no timer running (R170, R171, R175). R171 zeroes the check-failure run on entry to
TRAINING alone; that it is 0 in DOWN too is DESIGN CHOICE (log 30). -/
def Port.enterDown (p : Port) : Port :=
  { p with state := .down, credit := 0, owed := 0, helloTimer := none, trainTimer := none, silence := none,
           failRun := 0, tx := .silent }

/-- Training is complete: reached three, ready seen and ready sent (R173). -/
def Port.trained (p : Port) : Bool := p.state == .training && p.reachedThree && p.readySeen && p.readySent

/-- A port entering UP (R173). -/
def Port.enterUp (p : Port) : Port :=
  { p with state := .up, credit := p.capacity, owed := 0, helloTimer := none, trainTimer := none,
           silence := some silenceLimit, failRun := 0 }

/-- A port whose training is complete enters UP: the lower port sets LOWER_LINK, the upper lets the announcer announce
(R113, R125, R173). -/
def State.completeTraining (s : State) (p : PortId) : State :=
  if (s.port p).trained then
    match p with
    | .upper => (s.modPort .upper Port.enterUp).announceIfDue
    | .lower => (s.modPort .lower Port.enterUp).raiseFlag lowerLinkFlag
  else s

/-- Anything received by a port in UP restarts its silence timer (R170). -/
def Port.heard (p : Port) : Port := if p.state = .up then { p with silence := some silenceLimit } else p

/-- A damaged symbol: ignored by a port in DOWN; otherwise it counts as a check failure, breaks a training run and
restarts the silence timer (R170, R172). -/
def Port.damaged (p : Port) : Port :=
  match p.state with
  | .down => p
  | .training => { p with run := 0, counters := { p.counters with checkFailures := bump p.counters.checkFailures } }
  | .up => { p.heard with counters := { p.counters with checkFailures := bump p.counters.checkFailures } }

/-- The retrains counter of a port at its link loss (R175, R185). -/
def Port.countRetrain (p : Port) : Port :=
  { p with counters := { p.counters with retrains := bump p.counters.retrains } }

/-! ### Acknowledge kinds, and the end of an exchange (R72, R73, R191) -/

/-- The kinds of an acknowledge (R73). -/
inductive AckKind where
  | done
  | error
  | retry
deriving DecidableEq, Repr

/-- The kind on TtAK1 and TtAK0: DONE 0, ERROR 1, RETRY 2, and 3 taken as ERROR (R191). -/
def ackKind (k : BitVec 2) : AckKind :=
  if k = 0 then .done else if k = 2 then .retry else .error

/-- The rises of TtACK that wait when an exchange ends, and carry DONE data: they rose with TtREQ high for a READ, so each
has its transfer (R191). -/
def Tap.waitingTransfers (p : Tap) : List Transfer :=
  match p.presented with
  | some q =>
    if q.kind = .read then (p.rises.filter fun k => ackKind k == .done).map fun _ => { left := 4 * q.length, got := [] }
    else []
  | none => []

/-- The exchange is closed: the acknowledge timer stops, the request is withdrawn and TtD is released. The rises that
waited for the release are taken: the tap is ISSUED no more, so each is late, a DONE for a READ at the last byte of its
transfer and any other now (R72, R76, R78, R79, R191; log 27). -/
def Tap.withdraw (p : Tap) : Tap :=
  { p with
    ackTimer := none
    presented := none
    driving := false
    rises := []
    transfers := p.transfers ++ p.waitingTransfers
    counters := { p.counters with late := addCount p.counters.late (p.rises.length - p.waitingTransfers.length) } }

/-! ### Branch reset (R25, R46, R67, R96, R112, R127, R148) -/

/-- A bank at a branch reset: hit counts and reference count 0, the rest kept (R25). -/
def Bank.atBranchReset (b : Bank) : Bank :=
  { b with entries := b.entries.map fun o => o.map fun w => { w with hits := 0 }, refs := 0 }

/-- A tap at a branch reset: DISABLED, its records gone, the request withdrawn, timers stopped, mode lines low, counters
0; attention sampling and the data transfers in progress go on (R96, R191). -/
def Tap.atBranchReset (p : Tap) : Tap :=
  { ({ p with counters := .zero } : Tap).withdraw with
    state := .disabled, disablePending := false, queue := [], retryTimer := none, mode0 := false, mode1 := false }

/-- A branch reset takes effect, in one event (R148). -/
def State.branchReset (s : State) : State :=
  { s with
    windows := { s.windows with bankA := s.windows.bankA.atBranchReset, bankB := s.windows.bankB.atBranchReset }
    classifier := { s.classifier with paused := false }
    records := .empty
    taps := s.taps.map Tap.atBranchReset
    watches := s.watches.map fun w => { w with armed := false, hits := 0 }
    attention := .atReset
    mgmt := { resetPending := false
              params := { Params.atReset with lowerEnable := s.mgmt.params.lowerEnable }
              refusals := 0, depthOverflows := 0, reAnnounces := 0 }
    upper := { s.upper with counters := .zero }
    lower := { s.lower with counters := .zero } }

/-! ### Upper link loss (R47, R63 to R65, R97, R124, R149, R175, R176) -/

/-- Is the record freed at an upper link loss: every state but ISSUED (R63)? -/
def TransRecord.lostAtUpperLoss (r : TransRecord) : Bool := r.state != .issued

/-- A transaction record at an upper link loss: an ISSUED one becomes an orphan, any other is freed (R63, R64). -/
def transAtUpperLoss : Option TransRecord → Option TransRecord
  | some r => if r.lostAtUpperLoss then none else some { r with orphan := true }
  | none => none

/-- How many records naming the bank are freed at an upper link loss (R61, R63). -/
def RecordTable.lostNaming (t : RecordTable) (b : BankId) : Nat :=
  t.trans.toList.countP fun o => match o with | some r => r.bank == b && r.lostAtUpperLoss | none => false

/-- A management record at an upper link loss: an EXECUTING one becomes an orphan, any other is freed (R65). -/
def mgmtAtUpperLoss : Option MgmtRecord → Option MgmtRecord
  | some r => if r.state = .executing then some { r with orphan := true } else none
  | none => none

/-- The record table at an upper link loss (R63, R65). -/
def RecordTable.atUpperLoss (t : RecordTable) : RecordTable :=
  { trans := t.trans.map transAtUpperLoss
    mgmt := t.mgmt.map mgmtAtUpperLoss
    localResponses := []
    mgmtQueue := t.mgmtQueue.filter fun i => (mgmtAtUpperLoss t.mgmt[i]).isSome
    mgmtResponses := [] }

/-- A tap at an upper link loss (R97). -/
def Tap.atUpperLoss (p : Tap) : Tap :=
  match p.state with
  | .held | .retryWait => { p with state := .idle, queue := [], retryTimer := none }
  | .issued => { p with queue := p.queue.take 1 }
  | .idle | .faulted | .disabled => { p with queue := [] }

/-- An upper link loss ends the session (R176). -/
def State.endSession (s : State) : State :=
  { s with
    upper := s.upper.countRetrain.enterTraining
    upperRx := []
    lower := s.lower.owe s.lowerRx.length
    lowerRx := []
    lowerTx := s.lowerTx.filter fun q => !q.drain
    pointer := .mgmtResponses
    classifier := { s.classifier with stall := .none, refusals := [] }
    windows := { s.windows with
      bankA := { s.windows.bankA with refs := s.windows.bankA.refs - s.records.lostNaming .A }
      bankB := { s.windows.bankB with refs := s.windows.bankB.refs - s.records.lostNaming .B } }
    records := s.records.atUpperLoss
    taps := s.taps.map Tap.atUpperLoss
    attention := s.attention.atUpperLoss }

/-- An upper link loss, with the branch reset that was pending (R149, R176). -/
def State.loseUpper (s : State) : State :=
  if s.mgmt.resetPending then s.endSession.branchReset else s.endSession

/-! ### Lower link loss (R42 to R44, R113, R175, R177) -/

/-- A held pass at a lower link loss becomes a NO_ROUTE refusal that waits for the refusal queue (R42). -/
def Stall.atLowerLoss : Stall → Stall
  | .onLower p => .onRefusal (p.refusal .noRoute)
  | x => x

/-- A lower link loss; the port goes to TRAINING, or to DOWN when its enable was turned off (R175, R177). -/
def State.loseLower (s : State) (next : Port → Port) : State :=
  (({ s with
      lower := next s.lower.countRetrain
      lowerRx := []
      lowerTx := s.lowerTx.map fun q => { q with drain := true }
      classifier := { s.classifier with stall := s.classifier.stall.atLowerLoss } } : State).settle).raiseFlag lowerLinkFlag

/-- A link loss for a cause other than the enable (R175). -/
def State.loseLink (s : State) : PortId → State
  | .upper => s.loseUpper
  | .lower => s.loseLower Port.enterTraining

/-! ### The end of a management operation (R53, R65, R131) -/

/-- An operation ends: its record is answered, or freed if it is an orphan (R65, R131). -/
def State.finishMgmt (s : State) (i : Fin 3) (code : Code) (result : List Word) : State :=
  match s.mgmtAt i with
  | none => s
  | some r =>
    if r.orphan then
      let s := s.setMgmt i none
      { s with records := { s.records with mgmtQueue := s.records.mgmtQueue.erase i } }
    else
      let s := s.setMgmt i (some { r with state := .answered, answer := some { code, result } })
      { s with records := { s.records with
          mgmtQueue := s.records.mgmtQueue.erase i, mgmtResponses := s.records.mgmtResponses ++ [i] } }

/-- The management record at the head of the management queue when it is in the given state (R54). -/
def State.mgmtHead? (s : State) (st : MgmtState) : Option (Fin 3 × MgmtRecord) :=
  match s.records.mgmtQueue with
  | [] => none
  | i :: _ =>
    match s.mgmtAt i with
    | some r => if r.state = st then some (i, r) else none
    | none => none

/-- The operation in progress ends, if it is the one named (R131). -/
def State.finishExecuting (s : State) (op : Op) (code : Code) (result : List Word) : State :=
  match s.mgmtHead? .executing with
  | some (i, r) => if r.operation = op.code then s.finishMgmt i code result else s
  | none => s

/-! ### The beginning of a management operation (R129, R130) -/

/-- The outcome of beginning an operation: refused with a code, carried out with its result words, or in progress over
a span (R130, R131). -/
inductive Begun where
  | refuse (code : Code)
  | done (result : List Word) (s : State)
  | span (s : State)

/-- Is a management record EXECUTING (R129)? -/
def State.executing (s : State) : Bool :=
  s.records.mgmt.toList.any fun o => match o with | some r => r.state == .executing | none => false

/-- The record the management unit may begin: the head of the management queue is WAITING, no record is EXECUTING and
no branch reset is pending (R129). -/
def State.beginnable? (s : State) : Option (Fin 3 × MgmtRecord) :=
  if s.mgmt.resetPending || s.executing then none else s.mgmtHead? .waiting

/-- The record of index i goes to EXECUTING (R129). -/
def State.startMgmt (s : State) (i : Fin 3) (r : MgmtRecord) : State :=
  s.setMgmt i (some { r with state := .executing })

/-- What beginning an operation comes to: a refused operation changes nothing but its own record (R130). -/
def State.conclude (s : State) (i : Fin 3) : Begun → State
  | .refuse code => s.finishMgmt i code []
  | .done result t => t.finishMgmt i .ok result
  | .span t => t

/-- Begins the record at the head if it holds the operation: EXECUTING, the operand count checked, then the operation's
own checks and effect (R129, R130). Otherwise there is nothing to begin (log 1). -/
def State.begin (s : State) (op : Op) (body : State → List Word → Begun) : State :=
  match s.beginnable? with
  | some (i, r) =>
    if r.operation = op.code then
      let t := s.startMgmt i r
      if r.operands.length = op.operandCount then t.conclude i (body t r.operands)
      else t.finishMgmt i .badOperand []
    else s
  | none => s

/-! ### The tap exchange (R72 to R80, R89) -/

/-- The request an issue presents (R72). -/
def State.requestOf (s : State) (r : TransRecord) : TapRequest :=
  { kind := r.kind, localAddress := s.localAddress r, length := r.length, data := r.writeData.getD [] }

/-- The request is presented, the part drives its bytes on TtD and the acknowledge timer starts: the part of an issue that
a re-issue shares (R72, R75, R77, R191). -/
def State.present (s : State) (t : Fin 4) (i : Fin 16) (r : TransRecord) : State :=
  (s.setTrans i (some { r with state := .issued, waitRemaining := none })).modTap t fun p =>
    { p with state := .issued, ackTimer := some s.mgmt.params.ackLimit[t], retryTimer := none,
             presented := some (s.requestOf r), driving := true }

/-- An issue (R75). -/
def State.issue (s : State) (t : Fin 4) (i : Fin 16) (r : TransRecord) : State :=
  (s.present t i r).modTap t fun p => { p with counters := { p.counters with issues := bump p.counters.issues } }

/-- Entry into HELD: the tap and the record go to HELD and the HELD flag is set (R74, R84). -/
def State.enterHeld (s : State) (t : Fin 4) (i : Fin 16) (r : TransRecord) : State :=
  ((s.setTrans i (some { r with state := .held })).modTap t fun p => { p with state := .held }).raiseFlag (heldFlag t)

/-- The examination of the head record of a tap's queue (R74). -/
def State.examine (s : State) (t : Fin 4) : State :=
  match (s.tap t).queue with
  | [] => s
  | i :: _ =>
    match s.transAt i with
    | none => s
    | some r => if r.hold then s.enterHeld t i r else s.issue t i r

/-- The exchange of a tap is closed (R72, R76, R78). -/
def State.closeExchange (s : State) (t : Fin 4) : State := s.modTap t Tap.withdraw

/-- The issued record ends with a code; an orphan is freed instead (R51, R64). -/
def State.endIssued (s : State) (t : Fin 4) (i : Fin 16) (r : TransRecord) (code : Code)
    (data : Option (List Word)) : State :=
  if r.orphan then (s.dequeue t i).freeRecord i else s.answer i code data

/-- A pending disable completes: the queue is answered TAP_DISABLED, the tap goes to DISABLED and the Tap Disable is
answered with the word for pending (R89, R189). -/
def State.completeDisable (s : State) (t : Fin 4) : State :=
  ((s.answerAll (s.tap t).queue .tapDisabled).modTap t fun p =>
    { p with state := .disabled, disablePending := false }).finishExecuting .tapDisable .ok [one 1]

/-- The tap after its issued record has ended by an acknowledge: IDLE, or DISABLED when a disable was pending
(R76, R89). -/
def State.leaveIssued (s : State) (t : Fin 4) : State :=
  if (s.tap t).disablePending then s.completeDisable t else s.modTap t fun p => { p with state := .idle }

/-- The code an acknowledge fixes for the issued record, or none when it goes to RETRY_WAIT (R76, R89). -/
def ackCode (kind : AckKind) (disablePending : Bool) (retryCount retryLimit : Nat) : Option Code :=
  match kind with
  | .done => some .ok
  | .error => some .deviceError
  | .retry =>
    if disablePending then some .tapDisabled
    else if retryCount < retryLimit then none
    else some .deviceBusy

/-- A RETRY sends the record and the tap to RETRY_WAIT (R76). -/
def State.enterRetryWait (s : State) (t : Fin 4) (i : Fin 16) (r : TransRecord) : State :=
  (s.setTrans i (some { r with state := .retryWait, retryCount := r.retryCount + 1 })).modTap t fun p =>
    { p with state := .retryWait, retryTimer := some s.mgmt.params.retryDelay }

/-- An acknowledge taken while the tap is ISSUED (R64, R76, R89). -/
def State.takeAck (s : State) (t : Fin 4) (kind : AckKind) (words : List Word) : State :=
  match (s.tap t).queue with
  | [] => s
  | i :: _ =>
    match s.transAt i with
    | none => s
    | some r =>
      let c := s.closeExchange t
      if r.orphan then ((c.dequeue t i).freeRecord i).leaveIssued t
      else
        match ackCode kind (s.tap t).disablePending r.retryCount s.mgmt.params.retryLimit with
        | some code =>
          (c.answer i code (if r.kind = .read ∧ code = .ok then some words else none)).leaveIssued t
        | none => c.enterRetryWait t i r

/-- A late acknowledge: discarded and counted (R79). -/
def State.lateAck (s : State) (t : Fin 4) : State :=
  s.modTap t fun p => { p with counters := { p.counters with late := bump p.counters.late } }

/-! ### Clear-on-read protection (R111) -/

/-- Is any tap HELD? -/
def State.anyHeld (s : State) : Bool := s.taps.toList.any fun p => p.state == .held

/-- The clear outcome of a read, judged when it is carried out (R111). -/
def State.clearOutcome (s : State) (requested : Bool) : ClearOutcome :=
  if !requested then .notRequested
  else if s.anyHeld && !s.mgmt.params.clearWhileHeld then .suppressed
  else .cleared

/-! ### The time base (R82, R91, R184) -/

/-- One microsecond of a timer that runs. -/
def Timer.step (t : Timer) : Timer := t.map fun n => n - 1

/-- A timer that has counted its steps (R184, log 3). -/
def Timer.due (t : Timer) : Bool := t == some 0

/-- One microsecond at a port. -/
def Port.step (p : Port) : Port :=
  { p with helloTimer := Timer.step p.helloTimer, trainTimer := Timer.step p.trainTimer,
           silence := Timer.step p.silence }

/-- One microsecond at a tap: its timers count, and each attention input has had its one sample of the microsecond, at the
level it had if no command brought another (R71, R91, log 10). -/
def Tap.step (p : Tap) : Tap :=
  { p with ackTimer := Timer.step p.ackTimer, retryTimer := Timer.step p.retryTimer,
           sampledA := true, sampledB := true, nowA := false, nowB := false }

/-- One microsecond at a record: wait remaining counts while it is QUEUED on a tap that is not HELD (R82). -/
def TransRecord.step (taps : Vector Tap 4) (r : TransRecord) : TransRecord :=
  if r.state = .queued ∧ taps[r.tap].state ≠ .held then { r with waitRemaining := Timer.step r.waitRemaining } else r

/-- One microsecond of the time base (R184); it does not count while RSTIN is low (R191). -/
def State.tick (s : State) : State :=
  if s.resetLow then s
  else
    { s with
      timeBase := s.timeBase + 1
      upper := s.upper.step
      lower := s.lower.step
      taps := s.taps.map Tap.step
      records := { s.records with trans := s.records.trans.map fun o => o.map (TransRecord.step s.taps) }
      attention := { s.attention with timer := Timer.step s.attention.timer } }

end Sys2Proof.Machine
end

