-- ==== Sys2Proof/Machine/AttentionOps.lean ====
section
/-! DEFINITION. The attention unit's commands: re-announcement, Read Attention, Clear Attention, Set Attention Enables, Acknowledge Attention (R119 to R123). -/

namespace Sys2Proof.Machine

/-- The re-announcement: a new packet for the current sequence, with the set-list taken afresh and the new-list as it was
announced; the timer restarts with the interval as it stands (R120). -/
def State.reAnnounce (s : State) (newList : BitVec 17) : State :=
  { s with
    attention := { s.attention with
      packet := some { sequence := s.attention.sequence,
                       setList := s.attention.flagsSet &&& s.attention.flagsEnabled, newList }
      timer := reannounceTimer s.mgmt.params.reannounce }
    mgmt := { s.mgmt with reAnnounces := bump s.mgmt.reAnnounces } }

/-- RE_ANNOUNCE: the re-announce timer expires in ANNOUNCED (R120). -/
def execReAnnounce (s : State) : Host.Outcome State Fault Refusal :=
  s.taken
    (match s.attention.newList with
     | some newList => if Timer.due s.attention.timer then s.reAnnounce newList else s
     | none => s)

/-- The four result words of Read Attention (R122, R134, R189). -/
def Attention.words (a : Attention) (outcome : ClearOutcome) : List Word :=
  [ a.flagsSet.setWidth 32, a.flagsEnabled.setWidth 32, a.flagsAnnounced.setWidth 32
  , pack [(1, (!a.quiet).toNat), (8, a.sequence.toNat), (2, outcome.num)] ]

/-- Read Attention (clear) (R122). -/
def readAttentionBody (s : State) : List Word → Begun
  | [w] =>
    match flag? w.toNat with
    | none => .refuse .badOperand
    | some requested =>
      let outcome := s.clearOutcome requested
      .done (s.attention.words outcome)
        (if outcome = .cleared then s.modAttention fun a => a.clear a.flagsSet else s)
  | _ => .refuse .badOperand

/-- READ_ATTENTION (R122). -/
def execReadAttention (s : State) : Host.Outcome State Fault Refusal :=
  s.taken (s.begin .readAttention readAttentionBody)

/-- Clear Attention (mask) (R121). -/
def clearAttentionBody (s : State) : List Word → Begun
  | [w] =>
    match mask? w with
    | none => .refuse .badOperand
    | some m => .done [] (s.modAttention fun a => a.clear m)
  | _ => .refuse .badOperand

/-- CLEAR_ATTENTION (R121). -/
def execClearAttention (s : State) : Host.Outcome State Fault Refusal :=
  s.taken (s.begin .clearAttention clearAttentionBody)

/-- The flags of the mask become enabled or disabled (R123). -/
def Attention.enable (a : Attention) (mask : BitVec 17) (on : Bool) : Attention :=
  { a with flagsEnabled := if on then a.flagsEnabled ||| mask else a.flagsEnabled &&& ~~~mask }

/-- Set Attention Enables (mask, action) (R123). -/
def setAttentionEnablesBody (s : State) : List Word → Begun
  | [w1, w2] =>
    match mask? w1, flag? w2.toNat with
    | some m, some on =>
      let t := s.modAttention fun a => a.enable m on
      .done [t.attention.flagsEnabled.setWidth 32] t.announceIfDue
    | _, _ => .refuse .badOperand
  | _ => .refuse .badOperand

/-- SET_ATTENTION_ENABLES (R123). -/
def execSetAttentionEnables (s : State) : Host.Outcome State Fault Refusal :=
  s.taken (s.begin .setAttentionEnables setAttentionEnablesBody)

/-- Acknowledge Attention (sequence) (R119). -/
def acknowledgeAttentionBody (s : State) : List Word → Begun
  | [w] =>
    if w.toNat ≥ 256 then .refuse .badOperand
    else if s.attention.quiet ∨ w.toNat ≠ s.attention.sequence.toNat then .refuse .staleSequence
    else
      let t := s.modAttention Attention.acknowledge
      .done [one t.attention.sequence.toNat, one t.mayAnnounce.toNat] t.announceIfDue
  | _ => .refuse .badOperand

/-- ACKNOWLEDGE_ATTENTION (R119). -/
def execAcknowledgeAttention (s : State) : Host.Outcome State Fault Refusal :=
  s.taken (s.begin .acknowledgeAttention acknowledgeAttentionBody)

end Sys2Proof.Machine
end

