-- ==== Sys2Proof/Machine/Banks.lean ====
section
/-! DEFINITION. The bank operations: Write Entry, Read Entry, Clear Bank, Set Miss Action, Verify Bank and its completion, Open Bank, Select Bank, Clear Hit Counts (R10 to R21, R133). -/

namespace Sys2Proof.Machine

/-- Write Entry (bank, index, entry) (R11). -/
def writeEntryBody (s : State) : List Word → Begun
  | [w1, w2, w3, w4] =>
    match writeEntry? w1 w2 w3 w4 with
    | none => .refuse .badOperand
    | some (b, i, e) =>
      if (s.bank b).state = .opened then .done [] (s.modBank b fun x => { x with entries := x.entries.set i e })
      else .refuse .wrongState
  | _ => .refuse .badOperand

/-- WRITE_ENTRY (R11). -/
def execWriteEntry (s : State) : Host.Outcome State Fault Refusal := s.taken (s.begin .writeEntry writeEntryBody)

/-- The five result words of Read Entry (R20, R134, R189). -/
def entryWords : Option Window → List Word
  | none => [0, 0, 0, 0, 0]
  | some w =>
    [ pack [(1, 1), (1, w.tap.isSome.toNat), (1, w.localBase.isSome.toNat), (1, w.maxLength.isSome.toNat)]
    , w.base
    , pack [(5, w.sizeExponent), (2, w.action.num), (1, w.permitsRead.toNat), (1, w.permitsWrite.toNat),
            (3, (w.tap.map Fin.val).getD 0), (5, w.maxLength.getD 0)]
    , one ((w.localBase.map BitVec.toNat).getD 0)
    , one w.hits.toNat ]

/-- Read Entry (bank, index) (R20). -/
def readEntryBody (s : State) : List Word → Begun
  | [w1, w2] =>
    match bank? w1.toNat, index? 32 w2.toNat with
    | some b, some i => .done (entryWords (s.bank b).entries[i]) s
    | _, _ => .refuse .badOperand
  | _ => .refuse .badOperand

/-- READ_ENTRY (R20). -/
def execReadEntry (s : State) : Host.Outcome State Fault Refusal := s.taken (s.begin .readEntry readEntryBody)

/-- Clear Bank (bank) (R12). -/
def clearBankBody (s : State) : List Word → Begun
  | [w] =>
    match bank? w.toNat with
    | none => .refuse .badOperand
    | some b =>
      if (s.bank b).state = .opened then .done [] (s.modBank b fun x => { x with entries := .replicate 32 none })
      else .refuse .wrongState
  | _ => .refuse .badOperand

/-- CLEAR_BANK (R12). -/
def execClearBank (s : State) : Host.Outcome State Fault Refusal := s.taken (s.begin .clearBank clearBankBody)

/-- Set Miss Action (bank, action) (R13). -/
def setMissActionBody (s : State) : List Word → Begun
  | [w1, w2] =>
    match bank? w1.toNat, missAction? w2.toNat with
    | some b, some m =>
      if (s.bank b).state = .opened then .done [] (s.modBank b fun x => { x with missAction := m })
      else .refuse .wrongState
    | _, _ => .refuse .badOperand
  | _ => .refuse .badOperand

/-- SET_MISS_ACTION (R13). -/
def execSetMissAction (s : State) : Host.Outcome State Fault Refusal :=
  s.taken (s.begin .setMissAction setMissActionBody)

/-! ### Verify Bank (R14 to R16, R133) -/

/-- The first check the entry fails, in the order of the table (R15). -/
def Window.verify (w : Window) : Option VerifyReason :=
  if w.action = .claim ∧ (w.tap.isNone ∨ w.localBase.isNone) then some .missingField
  else if w.action ≠ .claim ∧ (w.tap.isSome ∨ w.localBase.isSome) then some .strayField
  else if w.base.toNat % 2 ^ w.sizeExponent ≠ 0 then some .baseMisaligned
  else
    match w.action, w.localBase with
    | .claim, some l =>
      if l.toNat % 16 ≠ 0 then some .localMisaligned
      else if l.toNat + 2 ^ w.sizeExponent > 2 ^ 24 then some .localOverrun
      else none
    | _, _ => none

/-- The lowest-indexed entry that fails, with its reason (R14). -/
def Bank.firstFailing (b : Bank) : Option (Fin 32 × VerifyReason) :=
  (List.finRange 32).findSome? fun i => (b.entries[i].bind Window.verify).map fun r => (i, r)

/-- The number of valid entries (R14). -/
def Bank.validCount (b : Bank) : Nat := b.entries.toList.countP Option.isSome

/-- Verify Bank (bank): answered at once for a VERIFIED or ACTIVE bank; in progress for an OPEN one (R16, R133). -/
def verifyBankBody (s : State) : List Word → Begun
  | [w] =>
    match bank? w.toNat with
    | none => .refuse .badOperand
    | some b => if (s.bank b).state = .opened then .span s else .done [one (s.bank b).validCount] s
  | _ => .refuse .badOperand

/-- VERIFY_BANK (R14, R16). -/
def execVerifyBank (s : State) : Host.Outcome State Fault Refusal := s.taken (s.begin .verifyBank verifyBankBody)

/-- An OPEN bank that has passed its checks becomes VERIFIED; no other bank changes (R8, R14, R16). -/
def Bank.passed (b : Bank) : Bank := if b.state = .opened then { b with state := .verified } else b

/-- The completion of a Verify Bank: the checks, and the bank VERIFIED if they pass (R14, R133). -/
def State.completeVerify (s : State) (i : Fin 3) (b : BankId) : State :=
  match (s.bank b).firstFailing with
  | some (e, reason) => s.finishMgmt i .verifyFailed [one e.val, one reason.num]
  | none =>
    (s.modBank b Bank.passed).finishMgmt i .ok [one (s.bank b).validCount]

/-- The bank of the Verify Bank in progress, if one is (R133). -/
def State.verifying? (s : State) : Option (Fin 3 × BankId) :=
  match s.mgmtHead? .executing with
  | some (i, r) =>
    if r.operation = Op.verifyBank.code then
      match r.operands with
      | [w] => (bank? w.toNat).map fun b => (i, b)
      | _ => none
    else none
  | none => none

/-- VERIFY_BANK_COMPLETE: the completion event of a Verify Bank in progress (R133). -/
def execVerifyBankComplete (s : State) : Host.Outcome State Fault Refusal :=
  s.taken (match s.verifying? with | some (i, b) => s.completeVerify i b | none => s)

/-! ### Open, select, clear hit counts (R17 to R19, R21) -/

/-- Open Bank (bank) (R17). -/
def openBankBody (s : State) : List Word → Begun
  | [w] =>
    match bank? w.toNat with
    | none => .refuse .badOperand
    | some b =>
      match (s.bank b).state with
      | .opened => .done [] s
      | .active => .refuse .wrongState
      | .verified =>
        if (s.bank b).refs = 0 then .done [] (s.modBank b fun x => { x with state := .opened })
        else .refuse .bankInUse
  | _ => .refuse .badOperand

/-- OPEN_BANK (R17). -/
def execOpenBank (s : State) : Host.Outcome State Fault Refusal := s.taken (s.begin .openBank openBankBody)

/-- An ACTIVE bank that is deselected becomes VERIFIED (R8, R18, R19). -/
def Bank.deselected (b : Bank) : Bank := if b.state = .active then { b with state := .verified } else b

/-- Bank b becomes ACTIVE and the selector names it; the other returns to VERIFIED if it was ACTIVE (R8, R18). -/
def Windows.select (w : Windows) (b : BankId) : Windows :=
  { ((w.setBank b { w.bank b with state := .active }).setBank b.other (w.bank b.other).deselected) with
    selector := some b }

/-- No bank is ACTIVE and the selector is NONE (R19). -/
def Windows.selectNone (w : Windows) : Windows :=
  { bankA := w.bankA.deselected, bankB := w.bankB.deselected, selector := none }

/-- Select Bank (target) (R18, R19). -/
def selectBankBody (s : State) : List Word → Begun
  | [w] =>
    match target? w.toNat with
    | none => .refuse .badOperand
    | some none => .done [one (selectorNum s.windows.selector)] { s with windows := s.windows.selectNone }
    | some (some b) =>
      match (s.bank b).state with
      | .opened => .refuse .notVerified
      | .active => .done [one (selectorNum s.windows.selector)] s
      | .verified => .done [one (selectorNum s.windows.selector)] { s with windows := s.windows.select b }
  | _ => .refuse .badOperand

/-- SELECT_BANK (R18, R19). -/
def execSelectBank (s : State) : Host.Outcome State Fault Refusal := s.taken (s.begin .selectBank selectBankBody)

/-- Clear Hit Counts (bank) (R21). -/
def clearHitCountsBody (s : State) : List Word → Begun
  | [w] =>
    match bank? w.toNat with
    | none => .refuse .badOperand
    | some b =>
      .done [] (s.modBank b fun x => { x with entries := x.entries.map fun o => o.map fun e => { e with hits := 0 } })
  | _ => .refuse .badOperand

/-- CLEAR_HIT_COUNTS (R21). -/
def execClearHitCounts (s : State) : Host.Outcome State Fault Refusal :=
  s.taken (s.begin .clearHitCounts clearHitCountsBody)

end Sys2Proof.Machine
end

