-- ==== Sys2Proof/Machine/Classifier.lean ====
section
/-! DEFINITION. The classifier: lookup, the eight claim checks, allocation with watch evaluation, management packets, passes and refusals (R3 to R7, R26 to R41, R99 to R101). -/

namespace Sys2Proof.Machine

/-! ### Lookup (R3 to R6) -/

/-- The words an entry covers (R2, R3). -/
def Window.size (w : Window) : Nat := 2 ^ w.sizeExponent

/-- Does the trunk address lie in the entry (R3)? -/
def Window.covers (w : Window) (address : Word) : Bool :=
  decide (w.base.toNat ≤ address.toNat ∧ address.toNat < w.base.toNat + w.size)

/-- The lowest-indexed valid entry that covers the address (R3, R5). -/
def Bank.match? (b : Bank) (address : Word) : Option (Fin 32) :=
  (List.finRange 32).find? fun i => match b.entries[i] with | some w => w.covers address | none => false

/-- A match raises the entry's hit count (R5, R22). -/
def Bank.countHit (b : Bank) (i : Fin 32) : Bank :=
  { b with entries := b.entries.set i (b.entries[i].map fun w => { w with hits := bump w.hits }) }

/-! ### Claim checks (R33 to R36) -/

/-- Is the kind among the entry's permissions (R34)? -/
def Window.permits (w : Window) : Kind → Bool
  | .read => w.permitsRead
  | .write => w.permitsWrite

/-- The tap a CLAIM names (R15, log 17). -/
def Window.claimTap (w : Window) : Fin 4 := w.tap.getD Config.unstatedTap

/-- The first check the claim fails, in the order of the table (R33). -/
def State.claimCheck (s : State) (w : Window) (q : Request) : Option Code :=
  let tap := s.tap w.claimTap
  if !w.permits q.kind then some .denied
  else if q.length > w.maxLength.getD 16 then some .tooLong
  else if q.address.toNat + q.length - 1 ≥ w.base.toNat + w.size then some .boundary
  else if tap.state = .disabled ∨ (tap.state = .issued ∧ tap.disablePending) then some .tapDisabled
  else if tap.state = .faulted then some .tapFault
  else if s.tagInUse q.tag then some .tagInUse
  else if tap.queue.length ≥ 6 then some .queueFull
  else if s.freeTrans?.isNone then some .branchFull
  else none

/-! ### Watch evaluation (R99, R100) -/

/-- Does the new record match the watch (R99)? -/
def Watch.sees (w : Watch) (r : TransRecord) : Bool :=
  w.armed && decide (w.low.toNat ≤ r.address.toNat ∧ r.address.toNat ≤ w.high.toNat)
    && (match r.kind with | .read => w.reads | .write => w.writes)
    && (match w.tap with | none => true | some t => t == r.tap)

/-- A watch after evaluating the new record (R100). -/
def Watch.evaluated (r : TransRecord) (w : Watch) : Watch :=
  if w.sees r then { w with hits := bump w.hits, armed := !w.oneShot } else w

/-- Is the new record marked to be held (R100)? -/
def State.marks (s : State) (r : TransRecord) : Bool := s.watches.toList.any fun w => w.hold && w.sees r

/-! ### Allocation (R37) -/

/-- The record a claim fills, before the watches (R37). -/
def State.newRecord (s : State) (b : BankId) (e : Fin 32) (w : Window) (q : Request) : TransRecord :=
  { state := .queued, tag := q.tag, kind := q.kind, address := q.address, length := q.length, bank := b, entry := e,
    tap := w.claimTap, writeData := if q.kind = .write then some q.data else none, readData := none, code := none,
    retryCount := 0, hold := false
    waitRemaining := if s.mgmt.params.waitLimit = 0 then none else some s.mgmt.params.waitLimit
    orphan := false }

/-- The claim is kept: the lowest FREE record is filled, the bank gains a reference, the watches evaluate the record, and
it joins the tail of its tap's queue (R37, R100). -/
def State.allocate (s : State) (i : Fin 16) (r : TransRecord) : State :=
  let s' := { s.setTrans i (some { r with hold := s.marks r }) with watches := s.watches.map (Watch.evaluated r) }
  ((s'.modBank r.bank fun b => { b with refs := b.refs + 1 }).modTap r.tap fun p =>
    { p with queue := p.queue ++ [i] }).disposeHead

/-- A request that lookup decides as CLAIM (R31, R33, R37). -/
def State.claimHead (s : State) (b : BankId) (e : Fin 32) (w : Window) (q : Request) : State :=
  match s.claimCheck w q with
  | some code => s.refuseHead ((Down.request q).refusal code)
  | none =>
    match s.freeTrans? with
    | some i => s.allocate i (s.newRecord b e w q)
    | none => s

/-- A READ or WRITE at the head (R4 to R6, R31). -/
def State.classifyRequest (s : State) (q : Request) : State :=
  match s.windows.selector with
  | none => s.passHead (.request q)
  | some b =>
    match (s.bank b).match? q.address with
    | none =>
      match (s.bank b).missAction with
      | .pass => s.passHead (.request q)
      | .reject => s.refuseHead ((Down.request q).refusal .refused)
    | some e =>
      match (s.bank b).entries[e] with
      | none => s
      | some w =>
        let t := s.modBank b fun x => x.countHit e
        match w.action with
        | .pass => t.passHead (.request q)
        | .reject => t.refuseHead ((Down.request q).refusal .refused)
        | .claim => t.claimHead b e w q

/-! ### Management packets (R29, R30) -/

/-- A MGMT packet taken into the lowest free management record, WAITING at the tail of the management queue (R30). -/
def State.keepMgmt (s : State) (i : Fin 3) (m : MgmtPacket) : State :=
  let t := s.setMgmt i (some { state := .waiting, tag := m.tag, operation := m.operation, operands := m.operands,
                               answer := none, orphan := false })
  ({ t with records := { t.records with mgmtQueue := t.records.mgmtQueue ++ [i] } } : State).disposeHead

/-- A MGMT at the head: passed down with hop above 0, otherwise refused or kept (R28 to R30). -/
def State.classifyMgmt (s : State) (m : MgmtPacket) : State :=
  if m.hop ≠ 0 then s.passHead (.mgmt m)
  else if s.tagInUse m.tag then s.refuseHead ((Down.mgmt m).refusal .tagInUse)
  else
    match s.freeMgmt? with
    | none => s.refuseHead ((Down.mgmt m).refusal .mgmtBusy)
    | some i => s.keepMgmt i m

/-- The classifier takes the head of the upper receive buffer, when it holds one and the classifier is neither paused
nor stalled (R27). -/
def State.classify (s : State) : State :=
  if s.classifier.paused ∨ s.classifier.stall ≠ .none then s
  else
    match s.upperRx with
    | [] => s
    | .request q :: _ => s.classifyRequest q
    | .mgmt m :: _ => s.classifyMgmt m

/-- CLASSIFY_PACKET (R27). -/
def execClassifyPacket (s : State) : Host.Outcome State Fault Refusal := s.taken s.classify

end Sys2Proof.Machine
end

