-- ==== Sys2Proof/Machine/Wire.lean ====
section
/-! DEFINITION. The line characters: check sequences, packet layouts in both directions, completion code values, and the receipt checks of a packet (R151, R161 to R164, R187, R188). -/

namespace Sys2Proof.Machine

/-! ### Check sequences (R187) -/

/-- One bit of the check sequence: polynomial x^16 + x^12 + x^5 + 1 (R187). -/
def crc16Bit (c : BitVec 16) (b : Bool) : BitVec 16 :=
  if c.msb != b then (c <<< 1) ^^^ 0x1021#16 else c <<< 1

/-- One bit of the symbol check: polynomial x^8 + x^2 + x + 1 (R187). -/
def crc8Bit (c : BitVec 8) (b : Bool) : BitVec 8 :=
  if c.msb != b then (c <<< 1) ^^^ 0x07#8 else c <<< 1

/-- The bits of a value, most significant first. -/
def bitsMsbFirst {n : Nat} (w : BitVec n) : List Bool :=
  (List.range n).map fun i => w.getLsbD (n - 1 - i)

/-- The check sequence of a packet: initial value 0xFFFF, every word from the header on, no final inversion (R187). -/
def checkSequence (words : List Word) : BitVec 16 :=
  words.foldl (fun c w => (bitsMsbFirst w).foldl crc16Bit c) 0xFFFF#16

/-- The symbol check of a symbol of the given type: initial value 0, over the type and payload bits 31–8 (R187). -/
def symbolCheck (type : BitVec 4) (payload : Word) : BitVec 8 :=
  (bitsMsbFirst type ++ bitsMsbFirst (payload.extractLsb' 8 24)).foldl crc8Bit 0#8

/-- The types of the three symbols (R187). -/
def idleType : BitVec 4 := 0x1#4
def helloType : BitVec 4 := 0x2#4
def creditType : BitVec 4 := 0x3#4

/-- A symbol character is undamaged when its check is right and its zero bits are zero; `zeros` masks those (R187). -/
def symbolIntact (type : BitVec 4) (zeros payload : Word) : Bool :=
  (payload &&& zeros) == 0 && payload.extractLsb' 0 8 == symbolCheck type payload

/-- IDLE and CREDIT have bits 31–8 zero, HELLO bits 31–13 (R187). -/
def idleIntact (payload : Word) : Bool := symbolIntact idleType 0xFFFFFF00#32 payload
def creditIntact (payload : Word) : Bool := symbolIntact creditType 0xFFFFFF00#32 payload
def helloIntact (payload : Word) : Bool := symbolIntact helloType 0xFFFFE000#32 payload

/-- The ready flag and the capacity of a HELLO (R187). -/
def helloReady (payload : Word) : Bool := payload.getLsbD 12
def helloCapacity (payload : Word) : Nat := (payload.extractLsb' 8 4).toNat

/-! ### Completion codes (R188) -/

/-- The value of a completion code (R188). -/
def Code.value : Code → BitVec 6
  | .ok => 0
  | .refused => 1
  | .denied => 2
  | .tooLong => 3
  | .boundary => 4
  | .noRoute => 5
  | .tapDisabled => 6
  | .tapFault => 7
  | .tagInUse => 8
  | .queueFull => 9
  | .branchFull => 10
  | .tapTimeout => 11
  | .deviceError => 12
  | .deviceBusy => 13
  | .waitExpired => 14
  | .discarded => 15
  | .mgmtBusy => 16
  | .badOperation => 17
  | .badOperand => 18
  | .wrongState => 19
  | .bankInUse => 20
  | .notVerified => 21
  | .verifyFailed => 22
  | .staleSequence => 23

/-- The catalogue in order of value (R188). -/
def Code.catalogue : List Code :=
  [.ok, .refused, .denied, .tooLong, .boundary, .noRoute, .tapDisabled, .tapFault, .tagInUse, .queueFull, .branchFull,
   .tapTimeout, .deviceError, .deviceBusy, .waitExpired, .discarded, .mgmtBusy, .badOperation, .badOperand, .wrongState,
   .bankInUse, .notVerified, .verifyFailed, .staleSequence]

/-- The code of a value; 24 to 63 name none (R188). -/
def Code.ofValue (v : BitVec 6) : Option Code := Code.catalogue[v.toNat]?

/-! ### Layout of the packets the part sends (R188) -/

/-- The value of a request's kind in bits 31–28 (R188). -/
def Kind.nibble : Kind → BitVec 4
  | .read => 0x1
  | .write => 0x2

/-- The words of a downward packet, header first (R188). -/
def Down.words : Down → List Word
  | .request r =>
    (r.kind.nibble ++ r.tag ++ BitVec.ofNat 5 r.length ++ r.reserved : BitVec 32) :: r.address :: r.data
  | .mgmt m =>
    (0x3#4 ++ m.tag ++ m.hop ++ BitVec.ofNat 4 m.operands.length ++ m.operation ++ m.reserved : BitVec 32)
      :: m.operands

/-- The words of an upward packet, header first (R188). -/
def Up.words : Up → List Word
  | .readDone tag code data r =>
    (0x9#4 ++ tag ++ code.value ++ BitVec.ofNat 5 data.length ++ r : BitVec 32) :: data
  | .writeDone tag code r => [(0xA#4 ++ tag ++ code.value ++ r : BitVec 32)]
  | .mgmtDone tag depth code result r =>
    (0xB#4 ++ tag ++ depth ++ code.value ++ BitVec.ofNat 4 result.length ++ r : BitVec 32) :: result
  | .attn depth sequence setList newList r =>
    [(0xC#4 ++ depth ++ sequence ++ r : BitVec 32), setList, newList]

/-- A line character: a 4-bit type and a 32-bit payload (R187). -/
structure LineChar where
  type : BitVec 4
  payload : Word
deriving DecidableEq, Repr

/-- A symbol character with its check in bits 7–0 (R187). -/
def symbolChar (type : BitVec 4) (upperBits : BitVec 24) : LineChar :=
  { type := type, payload := (upperBits ++ symbolCheck type (upperBits ++ 0#8 : BitVec 32) : BitVec 32) }

/-- The characters of a packet: one start, further words, one end with the check sequence computed afresh (R151, R187). -/
def packetChars : List Word → List LineChar
  | [] => []
  | header :: rest =>
    { type := 0x8, payload := header } :: rest.map (fun w => { type := 0x9, payload := w })
      ++ [{ type := 0xA, payload := (0#16 ++ checkSequence (header :: rest) : BitVec 32) }]

/-- The characters of what a port sends; every HELLO advertises capacity 8 (R170, R187). -/
def LineItem.chars : LineItem → List LineChar
  | .silent => []
  | .hello ready => [symbolChar helloType (0#19 ++ BitVec.ofBool ready ++ 8#4 : BitVec 24)]
  | .credit => [symbolChar creditType 0]
  | .down p => packetChars p.words
  | .up p => packetChars p.words

/-- The character sent whenever nothing else is being sent (R170). -/
def idleChar : LineChar := symbolChar idleType 0

/-! ### Framing and the receipt checks (R161 to R164, R187) -/

/-- The words and check sequence of a whole packet: one start, then packet words, then one end. Any other arrival is a
packet failing its check sequence (R187). Bits 31–16 of the end are not examined (log 6). -/
def frameRest : List PacketChar → Option (List Word × BitVec 16)
  | [.stop payload] => some ([], payload.extractLsb' 0 16)
  | .word w :: rest => (frameRest rest).map fun (ws, check) => (w :: ws, check)
  | _ => none

def frame : List PacketChar → Option (Word × List Word × BitVec 16)
  | .start header :: rest => (frameRest rest).map fun (ws, check) => (header, ws, check)
  | _ => none

/-- The outcome of the four receipt checks (R161), for a packet of kind `α`. -/
inductive Receipt (α : Type) where
  | checkFailure
  | malformed
  | misdirected
  | good (packet : α)
deriving DecidableEq, Repr

/-- Is the kind value one of the three downward kinds (R188)? -/
def isDownKind (k : BitVec 4) : Bool := k == 0x1 || k == 0x2 || k == 0x3

/-- Is the kind value one of the four upward kinds (R188)? -/
def isUpKind (k : BitVec 4) : Bool := k == 0x9 || k == 0xA || k == 0xB || k == 0xC

/-- Check 4 on a READ: length 1 to 16 and the address word alone (R163, R188). -/
def parseRead (header : Word) : List Word → Option Down
  | [address] =>
    let length := (header.extractLsb' 17 5).toNat
    if 1 ≤ length ∧ length ≤ 16 then
      some (.request { kind := .read, tag := header.extractLsb' 22 6, address, length, data := [],
                       reserved := header.extractLsb' 0 17 })
    else none
  | _ => none

/-- Check 4 on a WRITE: length 1 to 16, and exactly length data words after the address (R163, R188). -/
def parseWrite (header : Word) : List Word → Option Down
  | address :: data =>
    let length := (header.extractLsb' 17 5).toNat
    if 1 ≤ length ∧ length ≤ 16 ∧ data.length = length then
      some (.request { kind := .write, tag := header.extractLsb' 22 6, address, length, data,
                       reserved := header.extractLsb' 0 17 })
    else none
  | _ => none

/-- Check 4 on a MGMT: operand count at most 8, and exactly that many operand words (R163, R188). -/
def parseMgmt (header : Word) (operands : List Word) : Option Down :=
  let count := (header.extractLsb' 14 4).toNat
  if count ≤ 8 ∧ operands.length = count then
    some (.mgmt { hop := header.extractLsb' 18 4, tag := header.extractLsb' 22 6,
                  operation := header.extractLsb' 6 8, operands, reserved := header.extractLsb' 0 6 })
  else none

/-- Check 4 on a READ_DONE: a code of the catalogue, and 1 to 16 data words when it is OK, none otherwise (R163). -/
def parseReadDone (header : Word) (data : List Word) : Option Up :=
  let count := (header.extractLsb' 11 5).toNat
  match Code.ofValue (header.extractLsb' 16 6) with
  | some code =>
    if data.length = count ∧ (if code = .ok then 1 ≤ count ∧ count ≤ 16 else count = 0) then
      some (.readDone (header.extractLsb' 22 6) code data (header.extractLsb' 0 11))
    else none
  | none => none

/-- Check 4 on a WRITE_DONE: a code of the catalogue and no data (R163). -/
def parseWriteDone (header : Word) (rest : List Word) : Option Up :=
  match Code.ofValue (header.extractLsb' 16 6) with
  | some code =>
    if rest.length = 0 then some (.writeDone (header.extractLsb' 22 6) code (header.extractLsb' 0 16)) else none
  | none => none

/-- Check 4 on a MGMT_DONE: a code of the catalogue, result count at most 8 and exactly that many words (R163). -/
def parseMgmtDone (header : Word) (result : List Word) : Option Up :=
  let count := (header.extractLsb' 8 4).toNat
  match Code.ofValue (header.extractLsb' 12 6) with
  | some code =>
    if count ≤ 8 ∧ result.length = count then
      some (.mgmtDone (header.extractLsb' 22 6) (header.extractLsb' 18 4) code result (header.extractLsb' 0 8))
    else none
  | none => none

/-- Check 4 on an ATTN: two list words, the new-list not empty (R163, R188). -/
def parseAttn (header : Word) : List Word → Option Up
  | [setList, newList] =>
    if newList.extractLsb' 0 17 ≠ 0 then
      some (.attn (header.extractLsb' 24 4) (header.extractLsb' 16 8) setList newList (header.extractLsb' 0 16))
    else none
  | _ => none

/-- Check 4 for a packet of a downward kind (R163). -/
def parseDown (header : Word) (rest : List Word) : Option Down :=
  if header.extractLsb' 28 4 = 0x1#4 then parseRead header rest
  else if header.extractLsb' 28 4 = 0x2#4 then parseWrite header rest
  else parseMgmt header rest

/-- Check 4 for a packet of an upward kind (R163). -/
def parseUp (header : Word) (rest : List Word) : Option Up :=
  if header.extractLsb' 28 4 = 0x9#4 then parseReadDone header rest
  else if header.extractLsb' 28 4 = 0xA#4 then parseWriteDone header rest
  else if header.extractLsb' 28 4 = 0xB#4 then parseMgmtDone header rest
  else parseAttn header rest

/-- The four checks in their order, for a port that receives the kinds `right` and refuses the kinds `wrong` as
misdirected (R161, R164). -/
def receipt {α : Type} (right wrong : BitVec 4 → Bool) (parse : Word → List Word → Option α)
    (chars : List PacketChar) : Receipt α :=
  match frame chars with
  | none => .checkFailure
  | some (header, rest, check) =>
    if checkSequence (header :: rest) ≠ check then .checkFailure
    else if wrong (header.extractLsb' 28 4) then .misdirected
    else if right (header.extractLsb' 28 4) then
      match parse header rest with
      | some p => .good p
      | none => .malformed
    else .malformed

/-- The receipt checks at the upper port, which receives the downward kinds (R151, R161). -/
def receiptUpper (chars : List PacketChar) : Receipt Down := receipt isDownKind isUpKind parseDown chars

/-- The receipt checks at the lower port, which receives the upward kinds (R151, R161). -/
def receiptLower (chars : List PacketChar) : Receipt Up := receipt isUpKind isDownKind parseUp chars

/-! ### Tap port bytes (R191) -/

/-- A word from 4 bytes, most significant byte first (R191 gives that order for a WRITE's data; DEDUCED for a READ's,
log 13). -/
def wordsOfBytes : List Byte → List Word
  | b3 :: b2 :: b1 :: b0 :: rest => (b3 ++ b2 ++ b1 ++ b0 : BitVec 32) :: wordsOfBytes rest
  | _ => []

/-- The bytes of a word, most significant first (R191). -/
def wordBytes (w : Word) : List Byte :=
  [w.extractLsb' 24 8, w.extractLsb' 16 8, w.extractLsb' 8 8, w.extractLsb' 0 8]

/-- The bytes the part drives on TtD at an issue: operation in bit 7 and length minus 1 in bits 3–0, three bytes of local
address, then a WRITE's data (R191). R191 does not give bits 6–4 of the first byte; that they are 0 is DESIGN CHOICE
(log 31). -/
def TapRequest.bytes (q : TapRequest) : List Byte :=
  (BitVec.ofBool (q.kind == .write) ++ 0#3 ++ BitVec.ofNat 4 (q.length - 1) : BitVec 8)
    :: q.localAddress.extractLsb' 16 8 :: q.localAddress.extractLsb' 8 8 :: q.localAddress.extractLsb' 0 8
    :: q.data.flatMap wordBytes

end Sys2Proof.Machine
end

