-- ==== Sys2Proof/Machine/Link.lean ====
section
/-! DEFINITION. The trunk link: packets and symbols received, HELLO period, training restart, silence, CREDITs, and the two transmitters (R151 to R187). -/

namespace Sys2Proof.Machine

/-! ### Packets received (R155, R156, R161 to R165, R175, R179) -/

/-- A packet that passes all four checks: counted, and the check-failure run returns to 0 (R165, R175). -/
def Port.countReceived (p : Port) : Port :=
  { p with failRun := 0, counters := { p.counters with received := bump p.counters.received } }

/-- A malformed packet: counted, its slot freed (R161). -/
def Port.countMalformed (p : Port) : Port :=
  { p with counters := { p.counters with malformed := bump p.counters.malformed } }.owe 1

/-- A misdirected packet: counted, its slot freed (R161, R164). -/
def Port.countMisdirected (p : Port) : Port :=
  { p with counters := { p.counters with misdirected := bump p.counters.misdirected } }.owe 1

/-- A check failure: counted, its slot freed, the run one longer (R162, R175). -/
def Port.countCheckFailure (p : Port) : Port :=
  { p with failRun := p.failRun + 1
           counters := { p.counters with checkFailures := bump p.counters.checkFailures } }.owe 1

/-- An overrun: counted, nothing owed (R179). -/
def Port.countOverrun (p : Port) : Port :=
  { p with counters := { p.counters with overruns := bump p.counters.overruns } }

/-- The run of check failures that is a link loss (R175). -/
def failRunLimit : Nat := 4

/-- A packet that fails its check sequence; the fourth in a row is a link loss (R162, R175). -/
def State.failCheck (s : State) (p : PortId) : State :=
  let t := s.modPort p Port.countCheckFailure
  if (t.port p).failRun ≥ failRunLimit then t.loseLink p else t

/-- A packet taken into a free slot of the upper receive buffer (R161). -/
def State.receiveUpper (s : State) (chars : List PacketChar) : State :=
  match receiptUpper chars with
  | .checkFailure => s.failCheck .upper
  | .malformed => s.modPort .upper Port.countMalformed
  | .misdirected => s.modPort .upper Port.countMisdirected
  | .good p => { s.modPort .upper Port.countReceived with upperRx := s.upperRx ++ [p] }

/-- Is it a MGMT_DONE or ATTN with depth 15 (R155)? -/
def Up.depthFull : Up → Bool
  | .mgmtDone _ depth _ _ _ => depth == 15
  | .attn depth _ _ _ _ => depth == 15
  | .readDone _ _ _ _ | .writeDone _ _ _ => false

/-- An upward packet that passes the checks: discarded while the upper port is not UP, discarded and counted at depth
15, otherwise relayed (R155, R156). -/
def State.relay (s : State) (u : Up) : State :=
  let t := s.modPort .lower Port.countReceived
  if s.upper.state ≠ .up then t.modPort .lower fun p => p.owe 1
  else if u.depthFull then
    { t.modPort .lower (fun p => p.owe 1) with
      mgmt := { s.mgmt with depthOverflows := bump s.mgmt.depthOverflows } }
  else { t with lowerRx := s.lowerRx ++ [u] }

/-- A packet taken into a free slot of the lower receive buffer (R161). -/
def State.receiveLower (s : State) (chars : List PacketChar) : State :=
  match receiptLower chars with
  | .checkFailure => s.failCheck .lower
  | .malformed => s.modPort .lower Port.countMalformed
  | .misdirected => s.modPort .lower Port.countMisdirected
  | .good u => s.relay u

/-- The packets held in a port's receive buffer. -/
def State.rxLength (s : State) : PortId → Nat
  | .upper => s.upperRx.length
  | .lower => s.lowerRx.length

/-- A packet at a port: discarded unless the port is UP; an overrun when the buffer holds 8; otherwise checked
(R161, R170, R172, R179). -/
def State.receivePacket (s : State) (p : PortId) (chars : List PacketChar) : State :=
  if (s.port p).state ≠ .up then s
  else
    let t := s.modPort p Port.heard
    if s.rxLength p ≥ queueCapacity then t.modPort p Port.countOverrun
    else match p with
      | .upper => t.receiveUpper chars
      | .lower => t.receiveLower chars

/-- PACKET_RECEIVED (R161). -/
def execPacketReceived (port : PortId) (chars : List PacketChar) (s : State) : Host.Outcome State Fault Refusal :=
  s.taken (s.receivePacket port chars)

/-! ### Symbols received (R170, R172 to R174, R178) -/

/-- A good HELLO in TRAINING (R172). -/
def Port.goodHello (p : Port) (capacity : Nat) (ready : Bool) : Port :=
  { p with run := p.run + 1, capacity, reachedThree := p.reachedThree || decide (p.run + 1 ≥ 3),
           readySeen := p.readySeen || ready, trainTimer := some trainingLimit }

/-- An undamaged HELLO: in TRAINING it advances the run, or breaks it when its capacity is 0; in UP it is a link loss
with ready no and ignored with ready yes; in DOWN it is ignored (R170, R172, R174). -/
def State.receiveHello (s : State) (p : PortId) (capacity : Nat) (ready : Bool) : State :=
  match (s.port p).state with
  | .down => s
  | .training =>
    if capacity = 0 then s.modPort p fun x => { x with run := 0 }
    else (s.modPort p fun x => x.goodHello capacity ready).completeTraining p
  | .up => if ready then s.modPort p Port.heard else s.loseLink p

/-- HELLO_RECEIVED (R172); a damaged one is a damaged symbol (R170). -/
def execHelloReceived (port : PortId) (payload : Word) (s : State) : Host.Outcome State Fault Refusal :=
  s.taken
    (if helloIntact payload then s.receiveHello port (helloCapacity payload) (helloReady payload)
     else s.modPort port Port.damaged)

/-- An undamaged CREDIT: one send credit more in UP, or excess at the partner's capacity; ignored otherwise (R178). -/
def Port.receiveCredit (p : Port) : Port :=
  if p.state = .up then
    if p.credit < p.capacity then { p.heard with credit := p.credit + 1 }
    else { p.heard with counters := { p.counters with excessCredits := bump p.counters.excessCredits } }
  else p

/-- CREDIT_RECEIVED (R178). -/
def execCreditReceived (port : PortId) (payload : Word) (s : State) : Host.Outcome State Fault Refusal :=
  s.taken (if creditIntact payload then s.modPort port Port.receiveCredit else s.modPort port Port.damaged)

/-- IDLE_RECEIVED: restarts the silence timer of a port in UP (R170). -/
def execIdleReceived (port : PortId) (payload : Word) (s : State) : Host.Outcome State Fault Refusal :=
  s.taken (if idleIntact payload then s.modPort port Port.heard else s.modPort port Port.damaged)

/-- DAMAGED_SYMBOL_RECEIVED (R170). -/
def execDamagedSymbolReceived (port : PortId) (s : State) : Host.Outcome State Fault Refusal :=
  s.taken (s.modPort port Port.damaged)

/-! ### Timed events of a port (R170, R172, R175) -/

/-- A HELLO sent in TRAINING, ready yes once reached three is set (R172). -/
def Port.sendHello (p : Port) : Port :=
  { p with helloTimer := some helloPeriod, readySent := p.readySent || p.reachedThree, tx := .hello p.reachedThree }

/-- HELLO_PERIOD: in TRAINING, every 10 µs, a HELLO is sent, which may complete training (R170, R173). -/
def execHelloPeriod (port : PortId) (s : State) : Host.Outcome State Fault Refusal :=
  s.taken
    (if (s.port port).state = .training ∧ Timer.due (s.port port).helloTimer then
      (s.modPort port Port.sendHello).completeTraining port
     else s)

/-- All four training marks cleared, the count of 64 µs started again (R172). -/
def Port.restartTraining (p : Port) : Port :=
  { p with run := 0, reachedThree := false, readySeen := false, readySent := false, trainTimer := some trainingLimit }

/-- TRAINING_RESTART: 64 µs in TRAINING without a good HELLO (R172). -/
def execTrainingRestart (port : PortId) (s : State) : Host.Outcome State Fault Refusal :=
  s.taken
    (if (s.port port).state = .training ∧ Timer.due (s.port port).trainTimer then s.modPort port Port.restartTraining
     else s)

/-- SILENCE_TIMEOUT: 64 µs in UP with nothing received is a link loss (R175). -/
def execSilenceTimeout (port : PortId) (s : State) : Host.Outcome State Fault Refusal :=
  s.taken (if (s.port port).state = .up ∧ Timer.due (s.port port).silence then s.loseLink port else s)

/-- A CREDIT sent (R170, R179). -/
def Port.sendCredit (p : Port) : Port := { p with owed := p.owed - 1, tx := .credit }

/-- SEND_CREDIT: a port in UP with credits owed sends a CREDIT (R170, R179). -/
def execSendCredit (port : PortId) (s : State) : Host.Outcome State Fault Refusal :=
  s.taken (if (s.port port).state = .up ∧ 0 < (s.port port).owed then s.modPort port Port.sendCredit else s)

/-! ### The two transmitters (R180 to R182) -/

/-- May the port send a packet: UP, send credit above 0, and no CREDIT due first (R170, R178, log 8)? -/
def Port.maySend (p : Port) : Bool := p.state == .up && decide (0 < p.credit) && p.owed == 0

/-- A packet is sent: it uses one credit (R178). -/
def Port.transmit (p : Port) (item : LineItem) : Port := { p with credit := p.credit - 1, tx := item }

/-- LOWER_SEND: the head of the lower transmit queue, when it is no drain packet, is sent; the slot freed may take a held
pass (R40, R180). -/
def execLowerSend (s : State) : Host.Outcome State Fault Refusal :=
  s.taken
    (match s.lowerTx with
     | [] => s
     | q :: rest =>
       if s.lower.maySend && !q.drain then
         ({ s with lowerTx := rest, lower := s.lower.transmit (.down q.packet) } : State).settle
       else s)

/-- The source after one, from the last round to the first (R181). -/
def Source.next : Source → Source
  | .mgmtResponses => .localResponses
  | .localResponses => .refusals
  | .refusals => .lowerRx
  | .lowerRx => .mgmtResponses

/-- Has the source a packet waiting (R181)? -/
def State.waiting (s : State) : Source → Bool
  | .mgmtResponses => !s.records.mgmtResponses.isEmpty
  | .localResponses => !s.records.localResponses.isEmpty
  | .refusals => !s.classifier.refusals.isEmpty
  | .lowerRx => !s.lowerRx.isEmpty

/-- The first source with a packet waiting, from the pointer on (R181). -/
def State.chosen? (s : State) : Option Source :=
  [s.pointer, s.pointer.next, s.pointer.next.next, s.pointer.next.next.next].find? s.waiting

/-- The answer of a transaction record (R59). -/
def TransRecord.packet (r : TransRecord) : Up :=
  let code := r.code.getD .ok
  match r.kind with
  | .read => .readDone r.tag code (r.readData.getD []) 0
  | .write => .writeDone r.tag code 0

/-- The packet of a refusal (R38). -/
def Refused.packet (r : Refused) : Up :=
  match r.kind with
  | .readDone => .readDone r.tag r.code [] 0
  | .writeDone => .writeDone r.tag r.code 0
  | .mgmtDone => .mgmtDone r.tag 0 r.code [] 0

/-- A packet as it is relayed upward: the depth of a MGMT_DONE or ATTN one greater (R154, R156). -/
def Up.relayed : Up → Up
  | .readDone tag code data r => .readDone tag code data r
  | .writeDone tag code r => .writeDone tag code r
  | .mgmtDone tag depth code result r => .mgmtDone tag (depth + 1) code result r
  | .attn depth sequence setList newList r => .attn (depth + 1) sequence setList newList r

/-- The upper port sends a packet (R182). -/
def State.transmitUp (s : State) (u : Up) : State := { s with upper := s.upper.transmit (.up u) }

/-- The pending attention packet is sent; the pointer and the announcer stay (R118, R181). -/
def State.sendAttention (s : State) (a : AttnPacket) : State :=
  (s.transmitUp (.attn 0 a.sequence (a.setList.setWidth 32) (a.newList.setWidth 32) 0)).modAttention fun x =>
    { x with packet := none }

/-- Is this the answer of a Branch Reset that is pending (R147)? -/
def State.endsReset (s : State) (r : MgmtRecord) (a : MgmtAnswer) : Bool :=
  s.mgmt.resetPending && r.operation == Op.branchReset.code && a.code == .ok

/-- The head of the management response queue is sent and freed; the answer of a Branch Reset sets the reset off
(R60, R147, R182). -/
def State.sendMgmtResponse (s : State) : State :=
  match s.records.mgmtResponses with
  | [] => s
  | i :: rest =>
    match s.mgmtAt i with
    | none => s
    | some r =>
      match r.answer with
      | none => s
      | some a =>
        let t := (s.transmitUp (.mgmtDone r.tag 0 a.code a.result 0)).setMgmt i none
        let t := { t with pointer := Source.mgmtResponses.next, records := { t.records with mgmtResponses := rest } }
        if s.endsReset r a then t.branchReset else t

/-- The head of the local response queue is sent and freed (R60, R182). -/
def State.sendLocalResponse (s : State) : State :=
  match s.records.localResponses with
  | [] => s
  | i :: rest =>
    match s.transAt i with
    | none => s
    | some r =>
      let t := (s.transmitUp r.packet).freeRecord i
      { t with pointer := Source.localResponses.next, records := { t.records with localResponses := rest } }

/-- The head of the refusal queue is sent; the slot takes a drain packet or a held refusal (R41, R43, R182). -/
def State.sendRefusal (s : State) : State :=
  match s.classifier.refusals with
  | [] => s
  | r :: rest =>
    ({ s.transmitUp r.packet with
        pointer := Source.refusals.next, classifier := { s.classifier with refusals := rest } } : State).settle

/-- The head of the lower receive buffer is relayed; one credit is owed below (R156, R182). -/
def State.sendRelay (s : State) : State :=
  match s.lowerRx with
  | [] => s
  | u :: rest =>
    { s.transmitUp u.relayed with pointer := Source.lowerRx.next, lowerRx := rest, lower := s.lower.owe 1 }

/-- The packet the arbiter sends: the attention packet if one is pending, else the chosen source's head (R181). -/
def State.arbitrate (s : State) : State :=
  match s.attention.packet with
  | some a => s.sendAttention a
  | none =>
    match s.chosen? with
    | some .mgmtResponses => s.sendMgmtResponse
    | some .localResponses => s.sendLocalResponse
    | some .refusals => s.sendRefusal
    | some .lowerRx => s.sendRelay
    | none => s

/-- ARBITER_SEND (R181). -/
def execArbiterSend (s : State) : Host.Outcome State Fault Refusal :=
  s.taken (if s.upper.maySend then s.arbitrate else s)

end Sys2Proof.Machine
end

