-- ==== Sys2Proof/Machine/Management.lean ====
section
/-! DEFINITION. The management unit's own operations: unknown operations, identity, status, records, counters, parameters, Branch Reset (R130, R135 to R149). -/

namespace Sys2Proof.Machine

/-- UNKNOWN_OPERATION: the record to begin names no operation of the catalogue, and is answered BAD_OPERATION
(R130). -/
def execUnknownOperation (s : State) : Host.Outcome State Fault Refusal :=
  s.taken
    (match s.beginnable? with
     | some (i, r) =>
       if knownOperation r.operation then s else (s.startMgmt i r).finishMgmt i .badOperation []
     | none => s)

/-- Read Identity (R135). -/
def readIdentityBody (s : State) (_ : List Word) : Begun :=
  .done [one 0x0B7, one 0x416, one 1, one 4, one 16, one 32] s

/-- READ_IDENTITY (R135). -/
def execReadIdentity (s : State) : Host.Outcome State Fault Refusal := s.taken (s.begin .readIdentity readIdentityBody)

/-! ### Read Branch Status (R136) -/

/-- The number of allocated transaction records that satisfy a condition. -/
def RecordTable.count (t : RecordTable) (f : TransRecord → Bool) : Nat :=
  t.trans.toList.countP fun o => match o with | some r => f r | none => false

/-- The number of records in a state. -/
def RecordTable.inState (t : RecordTable) (st : TransState) : Nat := t.count fun r => r.state == st

/-- The state of a management record as a result value (R189). -/
def mgmtStateNum (o : Option MgmtRecord) : Nat := (o.map fun r => r.state.num).getD 0

/-- The state of a tap with its disable-pending mark (R136, log 25). -/
def Tap.statusFields (p : Tap) : List (Nat × Nat) := [(3, p.state.num), (1, p.disablePending.toNat)]

/-- The eight result words of Read Branch Status (R136). -/
def State.branchStatus (s : State) : List Word :=
  [ pack [(2, selectorNum s.windows.selector), (2, s.windows.bankA.state.num), (2, s.windows.bankB.state.num)]
  , pack [(5, s.windows.bankA.refs), (5, s.windows.bankB.refs)]
  , pack [(2, s.classifier.stall.num), (1, s.classifier.paused.toNat), (4, s.classifier.refusals.length)]
  , pack [(2, s.lower.state.num), (1, s.mgmt.params.lowerEnable.toNat), (4, s.lowerTx.length),
          (4, s.lowerTx.countP fun q => q.drain)]
  , pack [(5, s.records.inState .queued), (5, s.records.inState .issued), (5, s.records.inState .retryWait)]
  , pack [(5, s.records.inState .held), (5, s.records.inState .answered), (5, s.records.count fun r => r.orphan)]
  , pack ([(2, mgmtStateNum (s.mgmtAt 0)), (2, mgmtStateNum (s.mgmtAt 1)), (2, mgmtStateNum (s.mgmtAt 2))]
      ++ (s.tap 0).statusFields ++ (s.tap 1).statusFields ++ (s.tap 2).statusFields ++ (s.tap 3).statusFields)
  , pack [(1, (!s.attention.quiet).toNat), (8, s.attention.sequence.toNat)] ]

/-- Read Branch Status (R136). -/
def readBranchStatusBody (s : State) (_ : List Word) : Begun := .done s.branchStatus s

/-- READ_BRANCH_STATUS (R136). -/
def execReadBranchStatus (s : State) : Host.Outcome State Fault Refusal :=
  s.taken (s.begin .readBranchStatus readBranchStatusBody)

/-! ### Read Record (R137, R138) -/

/-- Is the record's wait timer paused (R82, R137, log 22)? -/
def State.waitPaused (s : State) (r : TransRecord) : Bool :=
  r.waitRemaining.isSome && (s.tap r.tap).state == .held

/-- The eight result words for an allocated transaction record (R137). -/
def State.transWords (s : State) (r : TransRecord) : List Word :=
  [ pack [(3, r.state.num), (6, r.tag.toNat), (1, r.kind.num), (5, r.length), (3, r.tap.val), (2, r.bank.num),
          (5, r.entry.val)]
  , r.address
  , one (s.localAddress r).toNat
  , pack [(4, r.retryCount), (1, r.hold.toNat), (1, r.orphan.toNat), (1, r.readData.isSome.toNat),
          (1, r.writeData.isSome.toNat)]
  , pack (optionalField 6 (r.code.map fun c => c.value.toNat))
  , pack (optionalField 16 r.waitRemaining ++ [(1, (s.waitPaused r).toNat)])
  , 0, 0 ]

/-- The four result words for an allocated management record (R138). -/
def MgmtRecord.words (r : MgmtRecord) : List Word :=
  [ pack [(2, r.state.num), (6, r.tag.toNat), (8, r.operation.toNat), (4, r.operands.length)]
  , one r.orphan.toNat
  , pack (optionalField 6 (r.answer.map fun a => a.code.value.toNat))
  , pack (optionalField 4 (r.answer.map fun a => a.result.length)) ]

/-- Read Record (record): 0 to 15 for transaction records, 16 to 18 for M0 to M2 (R137, R138). -/
def readRecordBody (s : State) : List Word → Begun
  | [w] =>
    match index? 16 w.toNat with
    | some i =>
      match s.transAt i with
      | some r => .done (s.transWords r) s
      | none => .done [one 0] s
    | none =>
      match index? 3 (w.toNat - 16) with
      | some i =>
        match s.mgmtAt i with
        | some r => .done r.words s
        | none => .done [one 0] s
      | none => .refuse .badOperand
  | _ => .refuse .badOperand

/-- READ_RECORD (R137, R138). -/
def execReadRecord (s : State) : Host.Outcome State Fault Refusal := s.taken (s.begin .readRecord readRecordBody)

/-! ### Read Counters (R139, R140) -/

/-- The counter groups (R139). -/
inductive Group where
  | port (p : PortId)
  | tap (t : Fin 4)
  | branch
deriving DecidableEq, Repr

/-- A group operand: UPPER 0, LOWER 1, TAP0 to TAP3 2 to 5, BRANCH 6 (R189). -/
def group? (v : Nat) : Option Group :=
  if v = 0 then some (.port .upper)
  else if v = 1 then some (.port .lower)
  else if v = 6 then some .branch
  else (index? 4 (v - 2)).map .tap

/-- The counters of a group, in the order given (R139). -/
def State.groupCounts (s : State) : Group → List Count
  | .port p =>
    let c := (s.port p).counters
    [c.received, c.checkFailures, c.malformed, c.misdirected, c.overruns, c.excessCredits, c.retrains]
  | .tap t =>
    let c := (s.tap t).counters
    [c.issues, c.retries, c.timeouts, c.late, c.waitExpiries]
  | .branch => [s.mgmt.refusals, s.mgmt.depthOverflows, s.mgmt.reAnnounces]

/-- Every counter of the group becomes 0 (R140). -/
def State.clearGroup (s : State) : Group → State
  | .port p => s.modPort p fun x => { x with counters := .zero }
  | .tap t => s.modTap t fun x => { x with counters := .zero }
  | .branch => { s with mgmt := { s.mgmt with refusals := 0, depthOverflows := 0, reAnnounces := 0 } }

/-- Read Counters (group, clear) (R139, R140). -/
def readCountersBody (s : State) : List Word → Begun
  | [w1, w2] =>
    match group? w1.toNat, flag? w2.toNat with
    | some g, some requested =>
      let outcome := s.clearOutcome requested
      .done ((s.groupCounts g).map (fun c => one c.toNat) ++ [one outcome.num])
        (if outcome = .cleared then s.clearGroup g else s)
    | _, _ => .refuse .badOperand
  | _ => .refuse .badOperand

/-- READ_COUNTERS (R139, R140). -/
def execReadCounters (s : State) : Host.Outcome State Fault Refusal := s.taken (s.begin .readCounters readCountersBody)

/-! ### Parameters (R142 to R145) -/

/-- The parameters by their identifiers (R142). -/
inductive Param where
  | ackLimit (t : Fin 4)
  | retryLimit
  | retryDelay
  | waitLimit
  | reannounce
  | clearWhileHeld
  | lowerEnable
deriving DecidableEq, Repr

/-- A parameter identifier, 0 to 9 (R142). -/
def param? (v : Nat) : Option Param :=
  match v with
  | 4 => some .retryLimit
  | 5 => some .retryDelay
  | 6 => some .waitLimit
  | 7 => some .reannounce
  | 8 => some .clearWhileHeld
  | 9 => some .lowerEnable
  | _ => (index? 4 v).map .ackLimit

/-- The range of a parameter (R142). -/
def Param.inRange (p : Param) (v : Nat) : Bool :=
  match p with
  | .ackLimit _ => decide (1 ≤ v ∧ v ≤ 65535)
  | .retryLimit => decide (v ≤ 15)
  | .retryDelay => decide (1 ≤ v ∧ v ≤ 4095)
  | .waitLimit => decide (v ≤ 65535)
  | .reannounce => decide (v ≤ 255)
  | .clearWhileHeld | .lowerEnable => decide (v ≤ 1)

/-- The value a parameter holds; off 0 and on 1 (R143, R144). -/
def Params.get (q : Params) : Param → Nat
  | .ackLimit t => q.ackLimit[t]
  | .retryLimit => q.retryLimit
  | .retryDelay => q.retryDelay
  | .waitLimit => q.waitLimit
  | .reannounce => q.reannounce
  | .clearWhileHeld => q.clearWhileHeld.toNat
  | .lowerEnable => q.lowerEnable.toNat

/-- A parameter takes a value (R143). -/
def Params.put (q : Params) (p : Param) (v : Nat) : Params :=
  match p with
  | .ackLimit t => { q with ackLimit := q.ackLimit.set t v }
  | .retryLimit => { q with retryLimit := v }
  | .retryDelay => { q with retryDelay := v }
  | .waitLimit => { q with waitLimit := v }
  | .reannounce => { q with reannounce := v }
  | .clearWhileHeld => { q with clearWhileHeld := v == 1 }
  | .lowerEnable => { q with lowerEnable := v == 1 }

/-- A change of lower port enable acts on the lower port: on puts it into TRAINING; off takes it DOWN, from UP with a
link loss (R145, R171, R175). -/
def State.applyEnable (s : State) (before after : Bool) : State :=
  if before = after then s
  else if after then { s with lower := s.lower.enterTraining }
  else if s.lower.state = .up then s.loseLower Port.enterDown
  else { s with lower := s.lower.enterDown }

/-- Set Parameter (parameter, value) (R143, R145). -/
def setParameterBody (s : State) : List Word → Begun
  | [w1, w2] =>
    match param? w1.toNat with
    | none => .refuse .badOperand
    | some p =>
      if p.inRange w2.toNat then
        let t := { s with mgmt := { s.mgmt with params := s.mgmt.params.put p w2.toNat } }
        .done [one (s.mgmt.params.get p)] (t.applyEnable s.mgmt.params.lowerEnable t.mgmt.params.lowerEnable)
      else .refuse .badOperand
  | _ => .refuse .badOperand

/-- SET_PARAMETER (R143). -/
def execSetParameter (s : State) : Host.Outcome State Fault Refusal := s.taken (s.begin .setParameter setParameterBody)

/-- Read Parameter (parameter) (R144). -/
def readParameterBody (s : State) : List Word → Begun
  | [w] =>
    match param? w.toNat with
    | none => .refuse .badOperand
    | some p => .done [one (s.mgmt.params.get p)] s
  | _ => .refuse .badOperand

/-- READ_PARAMETER (R144). -/
def execReadParameter (s : State) : Host.Outcome State Fault Refusal :=
  s.taken (s.begin .readParameter readParameterBody)

/-! ### Branch Reset (R146) -/

/-- Branch Reset: answered OK as it is begun, the reset pending and the classifier paused (R146). -/
def branchResetBody (s : State) (_ : List Word) : Begun :=
  .done [] { s with mgmt := { s.mgmt with resetPending := true }, classifier := { s.classifier with paused := true } }

/-- BRANCH_RESET (R146). -/
def execBranchReset (s : State) : Host.Outcome State Fault Refusal := s.taken (s.begin .branchReset branchResetBody)

end Sys2Proof.Machine
end

