-- ==== Sys2Proof/Machine/Reset.lean ====
section
/-! DEFINITION. The reset pin: POWER_UP_RESET and RESET_ASSERTED (R191). -/

namespace Sys2Proof.Machine

/-- POWER_UP_RESET: RSTIN is released, at power-on or at the pin; every block takes its power-up values and the time base
starts (R184, R191). -/
def execPowerUpReset (s : State) : Host.Outcome State Fault Refusal :=
  .next { State.reset with pending := s.pending }

/-- The pins of a tap while RSTIN is low: TtREQ, TtM0 and TtM1 low and TtD released, with no rise of TtACK waiting for it
(R191, log 18). -/
def Tap.pinsLow (p : Tap) : Tap :=
  { p with presented := none, driving := false, rises := [], mode0 := false, mode1 := false }

/-- RESET_ASSERTED: RSTIN is driven low; the transmitters are silent, the tap outputs low, TtD released, and the time base
does not count (R191). -/
def execResetAsserted (s : State) : Host.Outcome State Fault Refusal :=
  .next { s with
    resetLow := true
    upper := { s.upper with tx := .silent }
    lower := { s.lower with tx := .silent }
    taps := s.taps.map Tap.pinsLow }

end Sys2Proof.Machine
end

