-- ==== Sys2Proof/Machine/TapOps.lean ====
section
/-! DEFINITION. The tap operations: Tap Enable, Tap Disable, Tap Recover, Set Tap Lines, Read Tap Status (R85 to R94). -/

namespace Sys2Proof.Machine

/-- Tap Enable (tap) (R85). -/
def tapEnableBody (s : State) : List Word → Begun
  | [w] =>
    match index? 4 w.toNat with
    | none => .refuse .badOperand
    | some t =>
      match (s.tap t).state with
      | .disabled => .done [] (s.modTap t fun p => { p with state := .idle })
      | .issued => if (s.tap t).disablePending then .refuse .wrongState else .done [] s
      | .idle | .retryWait | .held | .faulted => .done [] s
  | _ => .refuse .badOperand

/-- TAP_ENABLE (R85). -/
def execTapEnable (s : State) : Host.Outcome State Fault Refusal := s.taken (s.begin .tapEnable tapEnableBody)

/-- A disable taken at once: every record the tap holds is answered TAP_DISABLED, head first, and the tap goes to
DISABLED (R86, R87). -/
def State.disableAtOnce (s : State) (t : Fin 4) : State :=
  (s.answerAll (s.tap t).queue .tapDisabled).modTap t fun p => { p with state := .disabled, retryTimer := none }

/-- Tap Disable (tap) (R86, R87, R88). -/
def tapDisableBody (s : State) : List Word → Begun
  | [w] =>
    match index? 4 w.toNat with
    | none => .refuse .badOperand
    | some t =>
      match (s.tap t).state with
      | .issued => .span (s.modTap t fun p => { p with disablePending := true })
      | .disabled => .done [one 0] s
      | .idle | .faulted | .held | .retryWait => .done [one 0] (s.disableAtOnce t)
  | _ => .refuse .badOperand

/-- TAP_DISABLE (R86). -/
def execTapDisable (s : State) : Host.Outcome State Fault Refusal := s.taken (s.begin .tapDisable tapDisableBody)

/-- Tap Recover (tap) (R90). -/
def tapRecoverBody (s : State) : List Word → Begun
  | [w] =>
    match index? 4 w.toNat with
    | none => .refuse .badOperand
    | some t =>
      match (s.tap t).state with
      | .faulted => .done [] (s.modTap t fun p => { p with state := .idle })
      | .idle => .done [] s
      | .disabled | .issued | .retryWait | .held => .refuse .wrongState
  | _ => .refuse .badOperand

/-- TAP_RECOVER (R90). -/
def execTapRecover (s : State) : Host.Outcome State Fault Refusal := s.taken (s.begin .tapRecover tapRecoverBody)

/-- The named mode lines at the level, the other as it is (R92). -/
def Tap.setLines (p : Tap) (line0 line1 level : Bool) : Tap :=
  { p with mode0 := if line0 then level else p.mode0, mode1 := if line1 then level else p.mode1 }

/-- Set Tap Lines (tap, lines, action) (R92). -/
def setTapLinesBody (s : State) : List Word → Begun
  | [w1, w2, w3] =>
    match index? 4 w1.toNat, flag? w3.toNat with
    | some t, some level =>
      if clearAbove w2 2 then
        let u := s.modTap t fun p => p.setLines (w2.getLsbD 0) (w2.getLsbD 1) level
        .done [pack [(1, (u.tap t).mode0.toNat), (1, (u.tap t).mode1.toNat)]] u
      else .refuse .badOperand
    | _, _ => .refuse .badOperand
  | _ => .refuse .badOperand

/-- SET_TAP_LINES (R92). -/
def execSetTapLines (s : State) : Host.Outcome State Fault Refusal := s.taken (s.begin .setTapLines setTapLinesBody)

/-- The width of "records held" (log 16). -/
def recordsHeldWidth : Nat := if Config.recordsHeldIsQueueCount then 4 else 5

/-- The three result words of Read Tap Status (R94, R189). -/
def tapStatusWords (p : Tap) (ackLimit : Nat) : List Word :=
  [ pack ([(3, p.state.num), (1, p.disablePending.toNat), (recordsHeldWidth, p.queue.length)]
      ++ optionalField 5 (p.queue.head?.map Fin.val))
  , one ackLimit
  , pack [(1, p.mode0.toNat), (1, p.mode1.toNat), (1, p.lineA.toNat), (1, p.lineB.toNat)] ]

/-- Read Tap Status (tap) (R94). -/
def readTapStatusBody (s : State) : List Word → Begun
  | [w] =>
    match index? 4 w.toNat with
    | none => .refuse .badOperand
    | some t => .done (tapStatusWords (s.tap t) s.mgmt.params.ackLimit[t]) s
  | _ => .refuse .badOperand

/-- READ_TAP_STATUS (R94). -/
def execReadTapStatus (s : State) : Host.Outcome State Fault Refusal :=
  s.taken (s.begin .readTapStatus readTapStatusBody)

end Sys2Proof.Machine
end

