-- ==== Sys2Proof/Machine/TapPort.lean ====
section
/-! DEFINITION. The events of a tap port: examination, acknowledges, the three timers, and the attention inputs (R70 to R84, R89, R91, R191). -/

namespace Sys2Proof.Machine

/-- EXAMINE_HEAD: an IDLE tap with a non-empty queue, and no transfer of DONE data in progress, examines its head (R74). -/
def execExamineHead (tap : Fin 4) (s : State) : Host.Outcome State Fault Refusal :=
  s.taken (if (s.tap tap).state = .idle ∧ (s.tap tap).transfers = [] then s.examine tap else s)

/-! ### Acknowledges (R73, R76, R79, R191) -/

/-- A DONE for a READ: its transfer begins, of 4 bytes a word of the presented request; each rise has its own (R73, R191). -/
def State.startTransfer (s : State) (t : Fin 4) (length : Nat) : State :=
  s.modTap t fun p => { p with transfers := p.transfers ++ [{ left := 4 * length, got := [] }] }

/-- An acknowledge that the part looks at: a DONE for a READ begins its transfer, any other is taken (R76, R79, R191). -/
def State.takeStrobe (s : State) (t : Fin 4) (k : BitVec 2) : State :=
  if (s.tap t).state ≠ .issued then s.lateAck t
  else
    match ackKind k, (s.tap t).presented with
    | .done, some q => if q.kind = .read then s.startTransfer t q.length else s.takeAck t .done []
    | kind, _ => s.takeAck t kind []

/-- A rise of TtACK: while the part drives TtD it does not look, and the rise waits for the release (R191). -/
def State.riseOfAck (s : State) (t : Fin 4) (k : BitVec 2) : State :=
  if (s.tap t).driving then s.modTap t fun p => { p with rises := p.rises ++ [k] } else s.takeStrobe t k

/-- The rises that waited for the release of TtD are taken, oldest first. One that closes the exchange takes those behind
it with it (`Tap.withdraw`) (R191). -/
def State.takeRises (s : State) (t : Fin 4) : List (BitVec 2) → State
  | [] => s
  | k :: rest =>
    if (s.tap t).state = .issued then
      ((s.modTap t fun p => { p with rises := rest }).takeStrobe t k).takeRises t rest
    else s

/-- The part has driven the last byte of a request: it releases TtD and takes the rises that came meanwhile (R191). -/
def State.releaseData (s : State) (t : Fin 4) : State :=
  if (s.tap t).driving then (s.modTap t fun p => { p with driving := false }).takeRises t (s.tap t).rises else s

/-- One byte of a transfer. -/
def Transfer.take (x : Transfer) (b : Byte) : Transfer := { left := x.left - 1, got := x.got ++ [b] }

/-- A data byte on TtD: the oldest transfer in progress takes it, and with none in progress it is not read; whether the
younger ones take it too is free (R191, log 12). -/
def takenBy (b : Byte) : List Transfer → List Transfer
  | [] => []
  | x :: rest => x.take b :: rest.map fun y => if Config.transfersShareBytes then y.take b else y

/-- The DONE of a READ has had its last byte: it is taken with its words if the tap is ISSUED, and is late otherwise
(R73, R79). -/
def State.takeDone (s : State) (t : Fin 4) (x : Transfer) : State :=
  if (s.tap t).state = .issued then s.takeAck t .done (wordsOfBytes x.got) else s.lateAck t

/-- A data byte. Each transfer that it ends ends in this event, oldest first; a tap that stood IDLE through its last
transfer then examines its head (R73, R74, R79, R191; log 14). Whether the part drives TtD is not looked at: R191 is silent
on a byte that comes while it does, with a transfer of an earlier issue in progress, and that the transfer takes it is
DESIGN CHOICE (log 32). -/
def State.takeByte (s : State) (t : Fin 4) (b : Byte) : State :=
  let after := takenBy b (s.tap t).transfers
  let ended := after.filter fun x => x.left == 0
  let going := after.filter fun x => x.left != 0
  let d := ended.foldl (fun c x => c.takeDone t x) (s.modTap t fun p => { p with transfers := going })
  if (s.tap t).state = .idle ∧ ended ≠ [] ∧ going = [] then d.examine t else d

/-- TAP_ACKNOWLEDGE (R76). -/
def execTapAcknowledge (tap : Fin 4) (input : TapInput) (s : State) : Host.Outcome State Fault Refusal :=
  s.taken
    (match input with
     | .strobe k => s.riseOfAck tap k
     | .dataByte b => s.takeByte tap b
     | .release => s.releaseData tap)

/-! ### Timers (R77, R78, R83, R89) -/

/-- The tap faults, or goes to DISABLED when a disable was pending (R78, R89). -/
def State.faultTap (s : State) (t : Fin 4) : State :=
  if (s.tap t).disablePending then s.completeDisable t
  else (s.answerAll (s.tap t).queue .tapFault).modTap t fun p => { p with state := .faulted }

/-- The acknowledge timer expires (R64, R78, R89). -/
def State.timeOut (s : State) (t : Fin 4) : State :=
  match (s.tap t).queue with
  | [] => s
  | i :: _ =>
    match s.transAt i with
    | none => s
    | some r =>
      let c := (s.closeExchange t).modTap t fun p =>
        { p with counters := { p.counters with timeouts := bump p.counters.timeouts } }
      ((c.endIssued t i r .tapTimeout none).faultTap t).raiseFlag (faultFlag t)

/-- ACK_TIMEOUT (R78). -/
def execAckTimeout (tap : Fin 4) (s : State) : Host.Outcome State Fault Refusal :=
  s.taken (if (s.tap tap).state = .issued ∧ Timer.due (s.tap tap).ackTimer then s.timeOut tap else s)

/-- The head record is presented again; it counts as a retry (R77). -/
def State.reissue (s : State) (t : Fin 4) : State :=
  match (s.tap t).queue with
  | [] => s
  | i :: _ =>
    match s.transAt i with
    | none => s
    | some r =>
      (s.present t i r).modTap t fun p => { p with counters := { p.counters with retries := bump p.counters.retries } }

/-- RETRY_TIMER_EXPIRY (R77). -/
def execRetryTimerExpiry (tap : Fin 4) (s : State) : Host.Outcome State Fault Refusal :=
  s.taken (if (s.tap tap).state = .retryWait ∧ Timer.due (s.tap tap).retryTimer then s.reissue tap else s)

/-- The record's wait is over: answered WAIT_EXPIRED, out of its place in the queue, and counted (R83). -/
def State.expireWait (s : State) (i : Fin 16) (t : Fin 4) : State :=
  (s.answer i .waitExpired none).modTap t fun p =>
    { p with counters := { p.counters with waitExpiries := bump p.counters.waitExpiries } }

/-- WAIT_TIMER_EXPIRY: the record is QUEUED on a tap that is not HELD and its wait timer has run out (R83). -/
def execWaitTimerExpiry (index : Fin 16) (s : State) : Host.Outcome State Fault Refusal :=
  s.taken
    (match s.transAt index with
     | none => s
     | some r =>
       if r.state = .queued ∧ (s.tap r.tap).state ≠ .held ∧ Timer.due r.waitRemaining then s.expireWait index r.tap
       else s)

/-! ### Attention inputs (R91) -/

/-- The level of a line as last sampled. -/
def Tap.level (p : Tap) : LineId → Bool
  | .A => p.lineA
  | .B => p.lineB

/-- Has the line been sampled since power-up? -/
def Tap.sampled (p : Tap) : LineId → Bool
  | .A => p.sampledA
  | .B => p.sampledB

/-- Has the line's sample of the present microsecond been taken? -/
def Tap.sampledNow (p : Tap) : LineId → Bool
  | .A => p.nowA
  | .B => p.nowB

/-- A sample of a line is kept, the one of its microsecond (R91). -/
def Tap.keepSample (p : Tap) (line : LineId) (level : Bool) : Tap :=
  match line with
  | .A => { p with lineA := level, sampledA := true, nowA := true }
  | .B => { p with lineB := level, sampledB := true, nowB := true }

/-- The sample of a line in the present microsecond, if it has not been taken: each line is sampled once in a microsecond.
A line found asserted after a sample that found it not asserted has changed, and sets its flag (R91, log 10). -/
def State.sampleLine (s : State) (tap : Fin 4) (line : LineId) (level : Bool) : State :=
  if (s.tap tap).sampledNow line then s
  else
    let t := s.modTap tap fun p => p.keepSample line level
    if level ∧ (s.tap tap).sampled line ∧ ¬ (s.tap tap).level line then t.raiseFlag (lineFlag tap line) else t

/-- ATTENTION_LINE_ASSERTED: a sample finds the line asserted (R91). -/
def execAttentionLineAsserted (tap : Fin 4) (line : LineId) (s : State) : Host.Outcome State Fault Refusal :=
  s.taken (s.sampleLine tap line true)

/-- ATTENTION_LINE_RELEASED: a sample finds the line not asserted; the level is kept and no flag is set (R91). -/
def execAttentionLineReleased (tap : Fin 4) (line : LineId) (s : State) : Host.Outcome State Fault Refusal :=
  s.taken (s.sampleLine tap line false)

end Sys2Proof.Machine
end

