-- ==== Sys2Proof/Machine/Watches.lean ====
section
/-! DEFINITION. The watch and hold operations: Set Watch, Disarm Watch, Read Watch, Release Hold, Discard Hold, Read Held Request (R102 to R109). -/

namespace Sys2Proof.Machine

def State.watch (s : State) (n : Fin 2) : Watch := s.watches[n]

def State.modWatch (s : State) (n : Fin 2) (f : Watch → Watch) : State :=
  { s with watches := s.watches.set n (f s.watches[n]) }

/-- Set Watch (R102). -/
def setWatchBody (s : State) : List Word → Begun
  | [w1, low, high] =>
    match setWatch? w1 low high with
    | none => .refuse .badOperand
    | some (n, x) => .done [] (s.modWatch n fun _ => x)
  | _ => .refuse .badOperand

/-- SET_WATCH (R102). -/
def execSetWatch (s : State) : Host.Outcome State Fault Refusal := s.taken (s.begin .setWatch setWatchBody)

/-- Disarm Watch (watch) (R103). -/
def disarmWatchBody (s : State) : List Word → Begun
  | [w] =>
    match index? 2 w.toNat with
    | none => .refuse .badOperand
    | some n => .done [] (s.modWatch n fun x => { x with armed := false })
  | _ => .refuse .badOperand

/-- DISARM_WATCH (R103). -/
def execDisarmWatch (s : State) : Host.Outcome State Fault Refusal := s.taken (s.begin .disarmWatch disarmWatchBody)

/-- The four result words of Read Watch (R104, R189). -/
def watchWords (x : Watch) : List Word :=
  [ pack [(1, x.armed.toNat), (1, x.reads.toNat), (1, x.writes.toNat), (3, (x.tap.map Fin.val).getD 4),
          (1, x.hold.toNat), (1, x.oneShot.toNat)]
  , x.low, x.high, one x.hits.toNat ]

/-- Read Watch (watch) (R104). -/
def readWatchBody (s : State) : List Word → Begun
  | [w] =>
    match index? 2 w.toNat with
    | none => .refuse .badOperand
    | some n => .done (watchWords (s.watch n)) s
  | _ => .refuse .badOperand

/-- READ_WATCH (R104). -/
def execReadWatch (s : State) : Host.Outcome State Fault Refusal := s.taken (s.begin .readWatch readWatchBody)

/-! ### The held tap (R106 to R109) -/

/-- The held record of a HELD tap: the head of its queue (R69). -/
def State.heldRecord? (s : State) (t : Fin 4) : Option (Fin 16 × TransRecord) :=
  if (s.tap t).state = .held then
    match (s.tap t).queue with
    | [] => none
    | i :: _ => (s.transAt i).map fun r => (i, r)
  else none

/-- Release Hold (tap) (R106). -/
def releaseHoldBody (s : State) : List Word → Begun
  | [w] =>
    match index? 4 w.toNat with
    | none => .refuse .badOperand
    | some t =>
      match s.heldRecord? t with
      | none => .refuse .wrongState
      | some (i, r) => .done [one i.val] (s.issue t i { r with hold := false })
  | _ => .refuse .badOperand

/-- RELEASE_HOLD (R106). -/
def execReleaseHold (s : State) : Host.Outcome State Fault Refusal := s.taken (s.begin .releaseHold releaseHoldBody)

/-- Discard Hold (tap) (R107). -/
def discardHoldBody (s : State) : List Word → Begun
  | [w] =>
    match index? 4 w.toNat with
    | none => .refuse .badOperand
    | some t =>
      match s.heldRecord? t with
      | none => .refuse .wrongState
      | some (i, _) =>
        .done [one i.val] ((s.answer i .discarded none).modTap t fun p => { p with state := .idle })
  | _ => .refuse .badOperand

/-- DISCARD_HOLD (R107). -/
def execDiscardHold (s : State) : Host.Outcome State Fault Refusal := s.taken (s.begin .discardHold discardHoldBody)

/-- The six result words of the HEADER section (R108). -/
def State.heldHeader (s : State) (i : Fin 16) (r : TransRecord) : List Word :=
  [one i.val, one r.tag.toNat, one r.kind.num, one r.length, r.address, one (s.localAddress r).toNat]

/-- The DATA section: a held WRITE's data words from the start on, up to 8; none for a held READ (R109). -/
def heldData (s : State) (r : TransRecord) (start : Nat) : Begun :=
  match r.kind with
  | .read => .done [] s
  | .write =>
    if start < r.length then .done (((r.writeData.getD []).drop start).take 8) s else .refuse .badOperand

/-- Read Held Request (tap, section, start): HEADER does not examine its start operand; DATA takes a start of 0 to 15
(R108, R109, R130). -/
def readHeldRequestBody (s : State) : List Word → Begun
  | [w1, w2, w3] =>
    match index? 4 w1.toNat, flag? w2.toNat with
    | some t, some data =>
      if data ∧ w3.toNat ≥ 16 then .refuse .badOperand
      else
        match s.heldRecord? t with
        | none => .refuse .wrongState
        | some (i, r) => if data then heldData s r w3.toNat else .done (s.heldHeader i r) s
    | _, _ => .refuse .badOperand
  | _ => .refuse .badOperand

/-- READ_HELD_REQUEST (R108, R109). -/
def execReadHeldRequest (s : State) : Host.Outcome State Fault Refusal :=
  s.taken (s.begin .readHeldRequest readHeldRequestBody)

end Sys2Proof.Machine
end

