-- ==== Sys2Proof/Machine/Dispatch.lean ====
section
/-! DEFINITION. One arm for each command of the opcode table. -/

namespace Sys2Proof.Machine

def exec (i : Instr) (s : State) : Host.Outcome State Fault Refusal :=
  match i with
  | .powerUpReset => Sys2Proof.Machine.execPowerUpReset s
  | .resetAsserted => Sys2Proof.Machine.execResetAsserted s
  | .packetReceived port chars => Sys2Proof.Machine.execPacketReceived port chars s
  | .helloReceived port payload => Sys2Proof.Machine.execHelloReceived port payload s
  | .creditReceived port payload => Sys2Proof.Machine.execCreditReceived port payload s
  | .idleReceived port payload => Sys2Proof.Machine.execIdleReceived port payload s
  | .damagedSymbolReceived port => Sys2Proof.Machine.execDamagedSymbolReceived port s
  | .helloPeriod port => Sys2Proof.Machine.execHelloPeriod port s
  | .trainingRestart port => Sys2Proof.Machine.execTrainingRestart port s
  | .silenceTimeout port => Sys2Proof.Machine.execSilenceTimeout port s
  | .sendCredit port => Sys2Proof.Machine.execSendCredit port s
  | .classifyPacket => Sys2Proof.Machine.execClassifyPacket s
  | .lowerSend => Sys2Proof.Machine.execLowerSend s
  | .arbiterSend => Sys2Proof.Machine.execArbiterSend s
  | .examineHead tap => Sys2Proof.Machine.execExamineHead tap s
  | .tapAcknowledge tap input => Sys2Proof.Machine.execTapAcknowledge tap input s
  | .ackTimeout tap => Sys2Proof.Machine.execAckTimeout tap s
  | .retryTimerExpiry tap => Sys2Proof.Machine.execRetryTimerExpiry tap s
  | .waitTimerExpiry index => Sys2Proof.Machine.execWaitTimerExpiry index s
  | .attentionLineAsserted tap line => Sys2Proof.Machine.execAttentionLineAsserted tap line s
  | .attentionLineReleased tap line => Sys2Proof.Machine.execAttentionLineReleased tap line s
  | .reAnnounce => Sys2Proof.Machine.execReAnnounce s
  | .verifyBankComplete => Sys2Proof.Machine.execVerifyBankComplete s
  | .unknownOperation => Sys2Proof.Machine.execUnknownOperation s
  | .readIdentity => Sys2Proof.Machine.execReadIdentity s
  | .readBranchStatus => Sys2Proof.Machine.execReadBranchStatus s
  | .readRecord => Sys2Proof.Machine.execReadRecord s
  | .readCounters => Sys2Proof.Machine.execReadCounters s
  | .writeEntry => Sys2Proof.Machine.execWriteEntry s
  | .readEntry => Sys2Proof.Machine.execReadEntry s
  | .clearBank => Sys2Proof.Machine.execClearBank s
  | .setMissAction => Sys2Proof.Machine.execSetMissAction s
  | .verifyBank => Sys2Proof.Machine.execVerifyBank s
  | .openBank => Sys2Proof.Machine.execOpenBank s
  | .selectBank => Sys2Proof.Machine.execSelectBank s
  | .clearHitCounts => Sys2Proof.Machine.execClearHitCounts s
  | .tapEnable => Sys2Proof.Machine.execTapEnable s
  | .tapDisable => Sys2Proof.Machine.execTapDisable s
  | .tapRecover => Sys2Proof.Machine.execTapRecover s
  | .setTapLines => Sys2Proof.Machine.execSetTapLines s
  | .readTapStatus => Sys2Proof.Machine.execReadTapStatus s
  | .setWatch => Sys2Proof.Machine.execSetWatch s
  | .disarmWatch => Sys2Proof.Machine.execDisarmWatch s
  | .readWatch => Sys2Proof.Machine.execReadWatch s
  | .releaseHold => Sys2Proof.Machine.execReleaseHold s
  | .discardHold => Sys2Proof.Machine.execDiscardHold s
  | .readHeldRequest => Sys2Proof.Machine.execReadHeldRequest s
  | .readAttention => Sys2Proof.Machine.execReadAttention s
  | .clearAttention => Sys2Proof.Machine.execClearAttention s
  | .setAttentionEnables => Sys2Proof.Machine.execSetAttentionEnables s
  | .acknowledgeAttention => Sys2Proof.Machine.execAcknowledgeAttention s
  | .setParameter => Sys2Proof.Machine.execSetParameter s
  | .readParameter => Sys2Proof.Machine.execReadParameter s
  | .branchReset => Sys2Proof.Machine.execBranchReset s

end Sys2Proof.Machine
end

