-- ==== Sys2Proof/Safety.lean ====
section
/-! DEFINITION. The terms the claims are stated in: a management record ready to be begun, the answer of an operation, the invariants of the part. -/

namespace Sys2Proof.Machine

/-! ### Management operations -/

/-- The command that begins an operation of the catalogue. -/
def Op.command : Op → Instr
  | .readIdentity => .readIdentity
  | .readBranchStatus => .readBranchStatus
  | .readRecord => .readRecord
  | .readCounters => .readCounters
  | .writeEntry => .writeEntry
  | .readEntry => .readEntry
  | .clearBank => .clearBank
  | .setMissAction => .setMissAction
  | .verifyBank => .verifyBank
  | .openBank => .openBank
  | .selectBank => .selectBank
  | .clearHitCounts => .clearHitCounts
  | .tapEnable => .tapEnable
  | .tapDisable => .tapDisable
  | .tapRecover => .tapRecover
  | .setTapLines => .setTapLines
  | .readTapStatus => .readTapStatus
  | .setWatch => .setWatch
  | .disarmWatch => .disarmWatch
  | .readWatch => .readWatch
  | .releaseHold => .releaseHold
  | .discardHold => .discardHold
  | .readHeldRequest => .readHeldRequest
  | .readAttention => .readAttention
  | .clearAttention => .clearAttention
  | .setAttentionEnables => .setAttentionEnables
  | .acknowledgeAttention => .acknowledgeAttention
  | .setParameter => .setParameter
  | .readParameter => .readParameter
  | .branchReset => .branchReset

/-- The management unit can begin record i, whose contents are r (R129): RSTIN is released, no branch reset is pending,
nothing is EXECUTING, and the head of the management queue is i, WAITING. -/
abbrev State.CanBegin (s : State) (i : Fin 3) (r : MgmtRecord) : Prop :=
  s.resetLow = false ∧ s.mgmt.resetPending = false ∧ s.executing = false
    ∧ s.records.mgmtQueue.head? = some i ∧ s.mgmtAt i = some r ∧ r.state = .waiting ∧ r.orphan = false

/-- The record to begin holds the operation with these operand words. -/
abbrev State.Ready (s : State) (i : Fin 3) (r : MgmtRecord) (op : Op) (operands : List Word) : Prop :=
  s.CanBegin i r ∧ r.operation = op.code ∧ r.operands = operands

/-- Record i, with contents r, has been begun and answered, and nothing else has changed: ANSWERED with the code and
result words, off the head of the management queue, at the tail of the management response queue (R53, R131). -/
def State.mgmtAnswered (s : State) (i : Fin 3) (r : MgmtRecord) (code : Code) (result : List Word) : State :=
  { s with records := { s.records with
      mgmt := s.records.mgmt.set i (some { r with state := .answered, answer := some { code, result } })
      mgmtQueue := s.records.mgmtQueue.tail
      mgmtResponses := s.records.mgmtResponses ++ [i] } }

/-- Record i, with contents r, has been begun and stays EXECUTING, and nothing else has changed (R53, R131). -/
def State.mgmtExecuting (s : State) (i : Fin 3) (r : MgmtRecord) : State :=
  { s with records := { s.records with mgmt := s.records.mgmt.set i (some { r with state := .executing }) } }

/-- Record m, with contents r, is the operation in progress (R128). -/
abbrev State.InProgress (s : State) (m : Fin 3) (r : MgmtRecord) (op : Op) : Prop :=
  s.records.mgmtQueue.head? = some m ∧ s.mgmtAt m = some r ∧ r.state = .executing ∧ r.operation = op.code

/-- The operands by which Write Entry gives entry e of bank b the value o (R189). -/
def entryOperands (b : BankId) (e : Fin 32) : Option Window → List Word
  | none => [pack [(2, b.num), (5, e.val)], 0, 0, 0]
  | some w =>
    [ pack [(2, b.num), (5, e.val), (1, 1), (1, w.tap.isSome.toNat), (1, w.localBase.isSome.toNat),
            (1, w.maxLength.isSome.toNat)]
    , w.base
    , pack [(5, w.sizeExponent), (2, w.action.num), (1, w.permitsRead.toNat), (1, w.permitsWrite.toNat),
            (3, (w.tap.map Fin.val).getD 0), (5, w.maxLength.getD 0)]
    , one ((w.localBase.map BitVec.toNat).getD 0) ]

/-- The fields of an entry lie in the ranges of R2, with hit count 0 as a Write Entry leaves it (R11). -/
def Window.writable (w : Window) : Prop :=
  4 ≤ w.sizeExponent ∧ w.sizeExponent ≤ 24 ∧ (w.permitsRead = true ∨ w.permitsWrite = true)
    ∧ (∀ n, w.maxLength = some n → 1 ≤ n ∧ n ≤ 16) ∧ w.hits = 0

/-- The operands by which Set Watch gives watch n the value x (R189). -/
def watchOperands (n : Fin 2) (x : Watch) : List Word :=
  [ pack [(1, n.val), (1, x.reads.toNat), (1, x.writes.toNat), (3, (x.tap.map Fin.val).getD 4), (1, x.hold.toNat),
          (1, x.oneShot.toNat)]
  , x.low, x.high ]

/-! ### Ports and taps -/

/-- Credits owed o, with d free values taken, after a slot of the port is freed: one more while there is room below 8,
any value of the range otherwise (R179, log 11). -/
def Port.Owes (p : Port) (o d : Nat) : Prop := (p.owed < 8 → o = p.owed + 1 ∧ d = p.draws) ∧ o ≤ 8

/-- The port may send a packet: UP, with credit, and no CREDIT due ahead of it (R170, R178). -/
abbrev State.MaySend (s : State) (p : PortId) : Prop :=
  s.resetLow = false ∧ (s.port p).state = .up ∧ 0 < (s.port p).credit ∧ (s.port p).owed = 0

/-- Tap t is in state st with record i, whose fields are r, at the head of its queue (R69, R70). -/
abbrev State.Serving (s : State) (t : Fin 4) (st : TapState) (i : Fin 16) (r : TransRecord) : Prop :=
  s.resetLow = false ∧ (s.tap t).state = st ∧ (s.tap t).queue.head? = some i ∧ s.transAt i = some r ∧ r.tap = t

/-- The head record of tap t is answered and nothing else has changed (R51). -/
def State.headAnswered (s : State) (t : Fin 4) (i : Fin 16) (r : TransRecord) (code : Code)
    (data : Option (List Word)) : State :=
  { s with
    records := { s.records with
      trans := s.records.trans.set i
        (some { r with state := .answered, code := some code, readData := data, waitRemaining := none })
      localResponses := s.records.localResponses ++ [i] }
    taps := s.taps.set t { s.taps[t] with queue := s.taps[t].queue.tail } }

/-- The part has released TtD, and no rise of TtACK waits for that (R191). -/
abbrev State.Listening (s : State) (t : Fin 4) : Prop := (s.tap t).driving = false ∧ (s.tap t).rises = []

/-- The transfers at a tap whose exchange ends while rises of TtACK wait for TtD: each DONE among them rose with TtREQ
high for the presented READ, and has its transfer of 4 bytes a word (R191; log 27). -/
def Tap.transfersAtEnd (p : Tap) : List Transfer :=
  match p.presented with
  | some { kind := .read, length := n, .. } =>
    p.transfers ++ .replicate (p.rises.count 0) { left := 4 * n, got := [] }
  | _ => p.transfers

/-- The late acknowledges of a tap whose exchange ends while rises of TtACK wait for TtD: each that has no transfer
(R79, R191; log 27). -/
def Tap.lateAtEnd (p : Tap) : Count :=
  match p.presented with
  | some { kind := .read, .. } => addCount p.counters.late (p.rises.length - p.rises.count 0)
  | _ => addCount p.counters.late p.rises.length

/-- The transfers at a tap when a data byte has come: the oldest has taken it, and each younger one too where bytes are
shared, which is free (R191; log 12). One that then lacks no byte has had its last. -/
def Tap.afterByte (p : Tap) (b : Byte) : List Transfer :=
  match p.transfers with
  | [] => []
  | x :: rest =>
    { left := x.left - 1, got := x.got ++ [b] } :: rest.map fun y =>
      if Config.transfersShareBytes then { left := y.left - 1, got := y.got ++ [b] } else y

/-- The transfers whose last byte this one is, oldest first (R73, R191). -/
def Tap.endedBy (p : Tap) (b : Byte) : List Transfer := (p.afterByte b).filter fun x => x.left == 0

/-- The transfers that go on behind a data byte (R191). -/
def Tap.goingAfter (p : Tap) (b : Byte) : List Transfer := (p.afterByte b).filter fun x => x.left != 0

/-- A tap whose exchange the last byte of a DONE has ended, before it leaves ISSUED: the request is withdrawn, the rises that
wait for TtD are taken (log 27), the transfers that go on go on, and every other one that ended with the byte is late
(R73, R76, R79). -/
def Tap.afterDone (p : Tap) (b : Byte) : Tap :=
  { p with
    ackTimer := none, presented := none, driving := false, rises := []
    transfers := ({ p with transfers := p.goingAfter b } : Tap).transfersAtEnd
    counters := { p.counters with late := addCount p.lateAtEnd ((p.endedBy b).length - 1) } }

/-- The attention unit after an event that leaves its flags and announcer as `a` has them and the upper port in `upper`:
in QUIET, with the port UP and a flag set, enabled and unannounced, the announcement is made in that event (R116);
otherwise none is (R117). -/
def State.announced (s : State) (upper : LinkState) (a : Attention) : Attention :=
  let fresh := a.flagsSet &&& a.flagsEnabled &&& ~~~a.flagsAnnounced
  if a.newList = none ∧ upper = .up ∧ fresh ≠ 0 then
    { a with
      flagsAnnounced := a.flagsAnnounced ||| fresh, newList := some fresh
      timer := if s.mgmt.params.reannounce = 0 then none else some (1000 * s.mgmt.params.reannounce)
      packet := some { sequence := a.sequence, setList := a.flagsSet &&& a.flagsEnabled, newList := fresh } }
  else a

/-- The cause of flag n has been taken: a clear flag is set and unannounced, a set flag keeps its announced mark, the rest
of the attention unit is as before, and the announcement is made if it is due (R114, R116, R117). -/
def State.FlagRaised (s t : State) (n : Nat) : Prop :=
  t.attention = s.announced s.upper.state { s.attention with
    flagsSet := s.attention.flagsSet ||| flagMask n
    flagsAnnounced :=
      if s.attention.flagsSet.getLsbD n then s.attention.flagsAnnounced
      else s.attention.flagsAnnounced &&& ~~~flagMask n }

/-! ### Packets on the line -/

/-- The fields of a downward packet lie in the ranges of R151, as every packet the part holds does. -/
def Down.inRange : Down → Prop
  | .request q => 1 ≤ q.length ∧ q.length ≤ 16 ∧ q.data.length = (if q.kind = .write then q.length else 0)
  | .mgmt m => m.operands.length ≤ 8

/-- The fields of an upward packet lie in the ranges of R151 and R160. -/
def Up.inRange : Up → Prop
  | .readDone _ code data _ => if code = .ok then 1 ≤ data.length ∧ data.length ≤ 16 else data = []
  | .writeDone _ _ _ => True
  | .mgmtDone _ _ _ result _ => result.length ≤ 8
  | .attn _ _ _ newList _ => newList.extractLsb' 0 17 ≠ 0

/-- The packet characters in which the words of a packet arrive (R187). -/
def arrival : List Word → List PacketChar
  | [] => []
  | header :: rest =>
    .start header :: (rest.map .word ++ [.stop ((checkSequence (header :: rest)).setWidth 32)])

/-! ### Invariants -/

/-- The selector names the bank whose state is ACTIVE, or NONE when neither is (R1). -/
def State.SelectorAgrees (s : State) : Prop :=
  ∀ b, (s.bank b).state = .active ↔ s.windows.selector = some b

/-- Each bank's reference count is the number of allocated transaction records that name it (R9). -/
def State.RefsAgree (s : State) : Prop :=
  ∀ b, (s.bank b).refs = s.records.count fun r => r.bank == b

/-- No two allocated records, transaction or management, hold the same tag (R56). -/
def State.TagsDiffer (s : State) : Prop :=
  (∀ i j r q, s.transAt i = some r → s.transAt j = some q → r.tag = q.tag → i = j)
    ∧ (∀ i j r q, s.mgmtAt i = some r → s.mgmtAt j = some q → r.tag = q.tag → i = j)
    ∧ (∀ i j r q, s.transAt i = some r → s.mgmtAt j = some q → r.tag ≠ q.tag)

/-- The attention unit: every flag marked announced is set, and in QUIET no timer runs and no packet is pending
(R113, R115). -/
def State.AttentionAgrees (s : State) : Prop :=
  s.attention.flagsAnnounced &&& ~~~s.attention.flagsSet = 0
    ∧ (s.attention.newList = none → s.attention.timer = none ∧ s.attention.packet = none)

/-- The queues and buffers keep within their 8 places, drain packets stand ahead of the others and only while the refusal
queue is full, a stall has its cause, and no packet that cannot be relayed waits below (R39, R40, R41, R43, R44, R155,
R169, R179). -/
def State.QueuesAgree (s : State) : Prop :=
  s.upperRx.length ≤ 8 ∧ s.lowerRx.length ≤ 8 ∧ s.lowerTx.length ≤ 8 ∧ s.classifier.refusals.length ≤ 8
    ∧ (s.lowerTx.Pairwise fun a b => b.drain = true → a.drain = true)
    ∧ ((∃ q ∈ s.lowerTx, q.drain = true) → s.classifier.refusals.length = 8)
    ∧ (∀ p, s.classifier.stall = .onLower p → s.lowerTx.length = 8 ∧ s.lower.state = .up)
    ∧ (∀ r, s.classifier.stall = .onRefusal r → s.classifier.refusals.length = 8)
    ∧ (s.classifier.stall ≠ .none → s.upperRx ≠ [])
    ∧ (∀ u ∈ s.lowerRx, u.depthFull = false)

/-- The ports: the upper port is never DOWN, the lower port is DOWN exactly while its enable is off, credits keep their
ranges, and a port that is not UP holds no packet, no credit and owes none (R169, R171, R173, R175, R178). -/
def State.PortsAgree (s : State) : Prop :=
  s.upper.state ≠ .down ∧ (s.lower.state = .down ↔ s.mgmt.params.lowerEnable = false)
    ∧ ∀ p, (s.port p).credit ≤ (s.port p).capacity ∧ 1 ≤ (s.port p).capacity ∧ (s.port p).capacity ≤ 15
      ∧ (s.port p).owed ≤ 8
      ∧ ((s.port p).state ≠ .up →
          (s.port p).credit = 0 ∧ (s.port p).owed = 0 ∧ (s.port p).silence = none ∧ s.rxLength p = 0)

/-- Each unanswered record stands once in the queue of the tap it names, each answered one once in the local response
queue, and a tap's state is that of its head record (R50, R57, R69 to R72). -/
def State.RecordsPlaced (s : State) : Prop :=
  (∀ t i, i ∈ (s.tap t).queue ↔ ∃ r, s.transAt i = some r ∧ r.tap = t ∧ r.state ≠ .answered)
    ∧ (∀ i, i ∈ s.records.localResponses ↔ ∃ r, s.transAt i = some r ∧ r.state = .answered)
    ∧ s.records.localResponses.Nodup
    ∧ (∀ i r, s.transAt i = some r → r.orphan = true → r.state = .issued)
    ∧ ∀ t, (s.tap t).queue.Nodup ∧ (s.tap t).queue.length ≤ 6
      ∧ ((s.tap t).disablePending = true → (s.tap t).state = .issued)
      ∧ (∀ i r, i ∈ (s.tap t).queue.tail → s.transAt i = some r → r.state = .queued)
      ∧ (match (s.tap t).state with
         | .disabled | .faulted => (s.tap t).queue = []
         | .idle => ∀ i r, (s.tap t).queue.head? = some i → s.transAt i = some r → r.state = .queued
         | .issued => ∃ i r, (s.tap t).queue.head? = some i ∧ s.transAt i = some r ∧ r.state = .issued
            ∧ (s.resetLow = false → ∃ a, (s.tap t).presented =
                some { kind := r.kind, localAddress := a, length := r.length, data := r.writeData.getD [] })
         | .retryWait => ∃ i r, (s.tap t).queue.head? = some i ∧ s.transAt i = some r ∧ r.state = .retryWait
         | .held => ∃ i r, (s.tap t).queue.head? = some i ∧ s.transAt i = some r ∧ r.state = .held)

/-- An acknowledge timer runs exactly in ISSUED, a retry timer exactly in RETRY_WAIT, a request is presented exactly in
ISSUED, TtD is driven only then, and a rise of TtACK waits only while it is (R71, R72, R191). -/
def State.ExchangesAgree (s : State) : Prop :=
  ∀ t, ((s.tap t).ackTimer.isSome = true ↔ (s.tap t).state = .issued)
    ∧ ((s.tap t).retryTimer.isSome = true ↔ (s.tap t).state = .retryWait)
    ∧ (s.resetLow = false → ((s.tap t).presented.isSome = true ↔ (s.tap t).state = .issued))
    ∧ ((s.tap t).driving = true → (s.tap t).state = .issued)
    ∧ ((s.tap t).rises ≠ [] → (s.tap t).driving = true)

/-- Each management record stands once in the queue its state names, an EXECUTING one at the head, and an orphan is
EXECUTING (R53 to R55, R65). -/
def State.MgmtPlaced (s : State) : Prop :=
  s.records.mgmtQueue.Nodup ∧ s.records.mgmtResponses.Nodup
    ∧ (∀ i, i ∈ s.records.mgmtQueue ↔ ∃ r, s.mgmtAt i = some r ∧ r.state ≠ .answered)
    ∧ (∀ i, i ∈ s.records.mgmtResponses ↔ ∃ r, s.mgmtAt i = some r ∧ r.state = .answered)
    ∧ ∀ i r, s.mgmtAt i = some r →
      (r.state = .executing → s.records.mgmtQueue.head? = some i) ∧ (r.orphan = true → r.state = .executing)
        ∧ (r.state = .answered ↔ r.answer.isSome = true)

/-- A bank that is not OPEN has passed its checks (R8, R14). -/
def State.BanksPassed (s : State) : Prop := ∀ b, (s.bank b).state ≠ .opened → (s.bank b).firstFailing = none

/-- Each allocated record names a bank that is not OPEN and lies wholly in the window it names, which names its tap and
gives a local base (R9, R23). -/
def State.RecordsTranslate (s : State) : Prop :=
  ∀ i r, s.transAt i = some r → (s.bank r.bank).state ≠ .opened
    ∧ ∃ w l, (s.bank r.bank).entries[r.entry] = some w ∧ w.localBase = some l
    ∧ w.tap = some r.tap ∧ w.base.toNat ≤ r.address.toNat
    ∧ r.address.toNat + r.length ≤ w.base.toNat + 2 ^ w.sizeExponent

/-- The window tables and the records agree: selector, reference counts, checks passed, and translation (R1, R9, R23). -/
def State.TablesAgree (s : State) : Prop :=
  s.SelectorAgrees ∧ s.RefsAgree ∧ s.BanksPassed ∧ s.RecordsTranslate

/-- The contents of a bank that traffic and hit counts leave alone: each entry but for its hit count, and the miss
action. -/
def Bank.contents (b : Bank) : List (Option Window) × MissAction :=
  (b.entries.toList.map fun o => o.map fun w => { w with hits := 0 }, b.missAction)

end Sys2Proof.Machine
end

