-- ==== Sys2Proof/Certificates/Slice0/Obligations.lean ====
section
/-! DEFINITION. The statements about the part, one definition each, by family of commands. -/

open Sys2Proof Sys2Proof.Machine

/-! ### The step, the queue of commands, and reset -/

/-- One step takes the command at the front of the queue. -/
def Obligations.StepTakesTheFrontCommand : Prop :=
  ∀ (c : Instr) (rest : List Instr) (s : State),
    step { s with pending := c :: rest } = exec c { s with pending := rest }

/-- On an empty queue a step is one microsecond of the time base, and none while RSTIN is low (the model's choice,
log 2): the timers of R184 count down, one at 0 staying at 0 (the model's choice, log 3), wait timers as R82 gives, and
both attention inputs of every tap have had their sample of the microsecond (R91; the model's choice, log 10). -/
def Obligations.EmptyQueueCountsOneMicrosecond : Prop :=
  ∀ s : State, s.pending = [] →
    (s.resetLow = true → step s = .next s) ∧
    (s.resetLow = false → ∃ t, step s = .next t ∧ t.timeBase = s.timeBase + 1 ∧
      (∀ p, t.port p = { s.port p with
        helloTimer := (s.port p).helloTimer.map (· - 1), trainTimer := (s.port p).trainTimer.map (· - 1),
        silence := (s.port p).silence.map (· - 1) }) ∧
      (∀ k, t.tap k = { s.tap k with
        ackTimer := (s.tap k).ackTimer.map (· - 1), retryTimer := (s.tap k).retryTimer.map (· - 1),
        sampledA := true, sampledB := true, nowA := false, nowB := false }) ∧
      (∀ i, t.transAt i = (s.transAt i).map fun r =>
        if r.state = .queued ∧ (s.tap r.tap).state ≠ .held then { r with waitRemaining := r.waitRemaining.map (· - 1) }
        else r) ∧
      t.attention = { s.attention with timer := s.attention.timer.map (· - 1) } ∧
      t.records = { s.records with trans := t.records.trans } ∧ t.windows = s.windows ∧
      t.upperRx = s.upperRx ∧ t.lowerRx = s.lowerRx ∧ t.lowerTx = s.lowerTx ∧ t.pointer = s.pointer ∧
      t.classifier = s.classifier ∧ t.watches = s.watches ∧ t.mgmt = s.mgmt ∧ t.pending = s.pending)

/-- POWER_UP_RESET gives the window tables their power-up values (R24). An empty entry is `none`, whose hit count is 0. -/
def Obligations.PowerUpResetEmptiesTheTables : Prop :=
  ∀ s : State, ∃ t, exec .powerUpReset s = .next t ∧ t.windows.selector = none ∧
    ∀ b, (t.bank b).state = .opened ∧ (t.bank b).missAction = .pass ∧ (t.bank b).refs = 0 ∧
      ∀ e : Fin 32, (t.bank b).entries[e] = none

/-- POWER_UP_RESET gives every other block its power-up values, and leaves the queue of commands (R26, R48, R95, R112,
R126, R128, R142, R184, R186, R191). The values of log 9, log 10 and log 11 are left out. The time base's 0 is
log 26, and the lower port's run, training marks and check-failure run are log 29, the model's choices. -/
def Obligations.PowerUpResetGivesPowerUpValues : Prop :=
  ∀ s : State, ∃ t, exec .powerUpReset s = .next t ∧ t.pending = s.pending ∧ t.resetLow = false ∧ t.timeBase = 0 ∧
    t.upper.state = .training ∧ t.lower.state = .down ∧ t.upper.tx = .hello false ∧ t.lower.tx = .silent ∧
    (∀ p, (t.port p).credit = 0 ∧ (t.port p).owed = 0 ∧ (t.port p).run = 0 ∧ (t.port p).reachedThree = false ∧
      (t.port p).readySeen = false ∧ (t.port p).readySent = false ∧ (t.port p).failRun = 0 ∧
      (t.port p).counters = ⟨0, 0, 0, 0, 0, 0, 0⟩) ∧
    t.upperRx = [] ∧ t.lowerRx = [] ∧ t.lowerTx = [] ∧ t.pointer = .mgmtResponses ∧
    t.classifier.stall = .none ∧ t.classifier.paused = false ∧ t.classifier.refusals = [] ∧
    (∀ i, t.transAt i = none) ∧ (∀ i, t.mgmtAt i = none) ∧
    t.records.localResponses = [] ∧ t.records.mgmtQueue = [] ∧ t.records.mgmtResponses = [] ∧
    (∀ k, (t.tap k).state = .disabled ∧ (t.tap k).disablePending = false ∧ (t.tap k).queue = [] ∧
      (t.tap k).ackTimer = none ∧ (t.tap k).retryTimer = none ∧ (t.tap k).presented = none ∧
      (t.tap k).driving = false ∧ (t.tap k).rises = [] ∧ (t.tap k).transfers = [] ∧
      (t.tap k).sampledA = false ∧ (t.tap k).sampledB = false ∧ (t.tap k).mode0 = false ∧ (t.tap k).mode1 = false ∧
      (t.tap k).counters = ⟨0, 0, 0, 0, 0⟩) ∧
    (∀ n, t.watch n = { armed := false, low := 0, high := 0, reads := true, writes := true, tap := none, hold := false,
                        oneShot := false, hits := 0 }) ∧
    t.attention = { flagsSet := 0, flagsEnabled := 0, flagsAnnounced := 0, sequence := 0, newList := none,
                    timer := none, packet := none } ∧
    t.mgmt.resetPending = false ∧ t.mgmt.refusals = 0 ∧ t.mgmt.depthOverflows = 0 ∧ t.mgmt.reAnnounces = 0 ∧
    (∀ k : Fin 4, t.mgmt.params.ackLimit[k] = 1000) ∧ t.mgmt.params.retryLimit = 3 ∧ t.mgmt.params.retryDelay = 50 ∧
    t.mgmt.params.waitLimit = 0 ∧ t.mgmt.params.reannounce = 0 ∧ t.mgmt.params.clearWhileHeld = false ∧
    t.mgmt.params.lowerEnable = false

/-- RESET_ASSERTED silences the transmitters, lowers TtREQ and the mode lines, releases TtD and changes nothing else;
while RSTIN is low no microsecond passes (R191). What it keeps is the model's reading (log 18), and that no other event is
taken while RSTIN is low is the model's choice (log 4). -/
def Obligations.ResetAssertedLowersTheOutputs : Prop :=
  (∀ s : State, ∃ t, exec .resetAsserted s = .next t ∧
    t = { s with resetLow := true, upper := { s.upper with tx := .silent }, lower := { s.lower with tx := .silent },
                 taps := t.taps } ∧
    ∀ k, t.tap k = { s.tap k with
      presented := none, driving := false, rises := [], mode0 := false, mode1 := false }) ∧
  (∀ (c : Instr) (s : State), s.resetLow = true → c ≠ .powerUpReset → c ≠ .resetAsserted →
    exec c s = .next s ∧ (s.pending = [] → step s = .next s))

/-- No command stops the part, and none but its own taking changes the queue of commands; a command that begins an
operation does nothing unless the management unit may begin a record that holds that operation (the model's choice,
log 1; R129 gives what may be begun). -/
def Obligations.EveryCommandHasANextState : Prop :=
  (∀ (c : Instr) (s : State), ∃ t, exec c s = .next t ∧ t.pending = s.pending) ∧
  (∀ (op : Op) (s : State), (∀ i r, s.beginnable? = some (i, r) → r.operation ≠ op.code) →
    exec op.command s = .next s)

/-! ### Packets received -/

/-- A packet at the upper port: discarded uncounted unless the port is UP, an overrun when the buffer holds 8, and
otherwise taken into a slot: kept and counted when it passes the four checks, otherwise
counted by the first check it fails, its slot freed and owed, and discarded; the silence timer restarts (R161, R162,
R165, R170, R172, R175, R179). The fourth check failure in a row is LinkLossIsOneEffect's. -/
def Obligations.UpperPacketIsKeptOrCounted : Prop :=
  ∀ (s : State) (chars : List PacketChar), s.resetLow = false →
    (s.upper.state ≠ .up → exec (.packetReceived .upper chars) s = .next s) ∧
    (s.upper.state = .up → 8 ≤ s.upperRx.length →
      exec (.packetReceived .upper chars) s = .next { s with
        upper := { s.upper with silence := some 64, counters := { s.upper.counters with
          overruns := bump s.upper.counters.overruns } } }) ∧
    (s.upper.state = .up → s.upperRx.length < 8 →
    (∀ q, receiptUpper chars = .good q →
      exec (.packetReceived .upper chars) s = .next { s with
        upperRx := s.upperRx ++ [q]
        upper := { s.upper with silence := some 64, failRun := 0, counters := { s.upper.counters with
          received := bump s.upper.counters.received } } }) ∧
    (receiptUpper chars = .malformed → ∃ o d, s.upper.Owes o d ∧
      exec (.packetReceived .upper chars) s = .next { s with
        upper := { s.upper with silence := some 64, owed := o, draws := d, counters := { s.upper.counters with
          malformed := bump s.upper.counters.malformed } } }) ∧
    (receiptUpper chars = .misdirected → ∃ o d, s.upper.Owes o d ∧
      exec (.packetReceived .upper chars) s = .next { s with
        upper := { s.upper with silence := some 64, owed := o, draws := d, counters := { s.upper.counters with
          misdirected := bump s.upper.counters.misdirected } } }) ∧
    (receiptUpper chars = .checkFailure → s.upper.failRun < 3 → ∃ o d, s.upper.Owes o d ∧
      exec (.packetReceived .upper chars) s = .next { s with
        upper := { s.upper with silence := some 64, owed := o, draws := d, failRun := s.upper.failRun + 1
                                counters := { s.upper.counters with
                                  checkFailures := bump s.upper.counters.checkFailures } } }))

/-- A packet at the lower port: discarded uncounted unless the port is UP, an overrun when the buffer holds 8, and
otherwise taken into a slot: relayed when it passes the checks, the upper port is UP and
its depth is below 15; discarded and its slot owed at depth 15, counted as a depth overflow, or while the upper port is
not UP, whatever its depth; a failing one counted (R155, R156, R161, R165, R170, R172, R175, R179). The
fourth check failure in a row is LinkLossIsOneEffect's. -/
def Obligations.LowerPacketIsRelayedOrCounted : Prop :=
  ∀ (s : State) (chars : List PacketChar), s.resetLow = false →
    (s.lower.state ≠ .up → exec (.packetReceived .lower chars) s = .next s) ∧
    (s.lower.state = .up → 8 ≤ s.lowerRx.length →
      exec (.packetReceived .lower chars) s = .next { s with
        lower := { s.lower with silence := some 64, counters := { s.lower.counters with
          overruns := bump s.lower.counters.overruns } } }) ∧
    (s.lower.state = .up → s.lowerRx.length < 8 →
    (∀ u, receiptLower chars = .good u → s.upper.state = .up → u.depthFull = false →
      exec (.packetReceived .lower chars) s = .next { s with
        lowerRx := s.lowerRx ++ [u]
        lower := { s.lower with silence := some 64, failRun := 0, counters := { s.lower.counters with
          received := bump s.lower.counters.received } } }) ∧
    (∀ u, receiptLower chars = .good u → s.upper.state = .up → u.depthFull = true → ∃ o d, s.lower.Owes o d ∧
      exec (.packetReceived .lower chars) s = .next { s with
        lower := { s.lower with silence := some 64, failRun := 0, owed := o, draws := d
                                counters := { s.lower.counters with received := bump s.lower.counters.received } }
        mgmt := { s.mgmt with depthOverflows := bump s.mgmt.depthOverflows } }) ∧
    (∀ u, receiptLower chars = .good u → s.upper.state ≠ .up → ∃ o d, s.lower.Owes o d ∧
      exec (.packetReceived .lower chars) s = .next { s with
        lower := { s.lower with silence := some 64, failRun := 0, owed := o, draws := d
                                counters := { s.lower.counters with received := bump s.lower.counters.received } } }) ∧
    (receiptLower chars = .malformed → ∃ o d, s.lower.Owes o d ∧
      exec (.packetReceived .lower chars) s = .next { s with
        lower := { s.lower with silence := some 64, owed := o, draws := d, counters := { s.lower.counters with
          malformed := bump s.lower.counters.malformed } } }) ∧
    (receiptLower chars = .misdirected → ∃ o d, s.lower.Owes o d ∧
      exec (.packetReceived .lower chars) s = .next { s with
        lower := { s.lower with silence := some 64, owed := o, draws := d, counters := { s.lower.counters with
          misdirected := bump s.lower.counters.misdirected } } }) ∧
    (receiptLower chars = .checkFailure → s.lower.failRun < 3 → ∃ o d, s.lower.Owes o d ∧
      exec (.packetReceived .lower chars) s = .next { s with
        lower := { s.lower with silence := some 64, owed := o, draws := d, failRun := s.lower.failRun + 1
                                counters := { s.lower.counters with
                                  checkFailures := bump s.lower.counters.checkFailures } } }))

/-- The receipt checks in their order, for one packet as R187 frames it: check sequence, kind, direction; a packet that
is interrupted, packet words outside a packet and a lone packet end fail the check sequence (R161, R162, R164, R187).
That bits 31–16 of a packet end are not examined, and that any list behind a leading packet word is one failing packet, is
the model's reading (log 6). -/
def Obligations.ReceiptChecksComeInOrder : Prop :=
  (∀ (header : Word) (rest : List Word) (payload : Word),
    let chars := PacketChar.start header :: (rest.map .word ++ [.stop payload])
    let kind := (header.extractLsb' 28 4).toNat
    (payload.extractLsb' 0 16 ≠ checkSequence (header :: rest) →
      receiptUpper chars = .checkFailure ∧ receiptLower chars = .checkFailure) ∧
    (payload.extractLsb' 0 16 = checkSequence (header :: rest) →
      ((kind = 0 ∨ 4 ≤ kind ∧ kind ≤ 8 ∨ 13 ≤ kind) →
        receiptUpper chars = .malformed ∧ receiptLower chars = .malformed) ∧
      (9 ≤ kind ∧ kind ≤ 12 → receiptUpper chars = .misdirected) ∧
      (1 ≤ kind ∧ kind ≤ 3 → receiptLower chars = .misdirected))) ∧
  (∀ (header : Word) (rest : List Word),
    receiptUpper (.start header :: rest.map .word) = .checkFailure ∧
    receiptLower (.start header :: rest.map .word) = .checkFailure) ∧
  (∀ (w : Word) (rest : List PacketChar),
    receiptUpper (.word w :: rest) = .checkFailure ∧ receiptLower (.word w :: rest) = .checkFailure) ∧
  (∀ payload : Word, receiptUpper [.stop payload] = .checkFailure ∧ receiptLower [.stop payload] = .checkFailure)

/-- Every packet whose fields are in range passes the receipt checks, at the port its kind travels to, in the words and
check sequence the part would send it in, with every field as it was (R151, R161, R163, R187, R188). -/
def Obligations.PacketRoundTrip : Prop :=
  (∀ p : Down, p.inRange → receiptUpper (arrival p.words) = .good p) ∧
  (∀ u : Up, u.inRange → receiptLower (arrival u.words) = .good u)

/-! ### Symbols and timers of a port -/

/-- Training: a good HELLO raises the run, keeps the capacity and may set reached three and ready seen, and a HELLO of
capacity 0 breaks the run; every 10 µs a HELLO is sent, ready yes once reached three is set; 64 µs without a good HELLO
clear the four marks. When a HELLO received or sent completes the marks the port enters UP with full credit: a lower port
sets LOWER_LINK, and at an upper port the announcement of the flags that wait is made (R113, R114, R116, R125, R170, R172,
R173). -/
def Obligations.TrainingBringsAPortUp : Prop :=
  ∀ (s : State) (p : PortId), s.resetLow = false → (s.port p).state = .training →
    (∀ (c : Instr) (x : Port),
      ((∃ payload, c = .helloReceived p payload ∧ helloIntact payload = true ∧ 1 ≤ helloCapacity payload ∧
          x = { s.port p with
            run := (s.port p).run + 1, capacity := helloCapacity payload
            reachedThree := (s.port p).reachedThree || decide (3 ≤ (s.port p).run + 1)
            readySeen := (s.port p).readySeen || helloReady payload, trainTimer := some 64 }) ∨
        (c = .helloPeriod p ∧ (s.port p).helloTimer = some 0 ∧
          x = { s.port p with
            helloTimer := some 10, tx := .hello (s.port p).reachedThree
            readySent := (s.port p).readySent || (s.port p).reachedThree })) →
      ((x.reachedThree && x.readySeen && x.readySent) = false → exec c s = .next (s.setPort p x)) ∧
      ((x.reachedThree && x.readySeen && x.readySent) = true → ∃ t, exec c s = .next t ∧
        t = { s.setPort p { x with state := .up, credit := x.capacity, owed := 0, helloTimer := none,
                                   trainTimer := none, silence := some 64, failRun := 0 } with
              attention := t.attention } ∧
        (p = .lower → s.FlagRaised t 16) ∧ (p = .upper → t.attention = s.announced .up s.attention))) ∧
    (∀ payload, helloIntact payload = true → helloCapacity payload = 0 →
      exec (.helloReceived p payload) s = .next (s.setPort p { s.port p with run := 0 })) ∧
    ((s.port p).trainTimer = some 0 →
      exec (.trainingRestart p) s = .next (s.setPort p { s.port p with
        run := 0, reachedThree := false, readySeen := false, readySent := false, trainTimer := some 64 }))

/-- A damaged symbol, whichever symbol it was: counted as a check failure, breaking the run in TRAINING and restarting the
silence timer in UP, and ignored in DOWN (R170, R172). -/
def Obligations.DamagedSymbolIsCounted : Prop :=
  ∀ (s : State) (p : PortId) (c : Instr) (payload : Word), s.resetLow = false →
    (c = .damagedSymbolReceived p ∨ (c = .helloReceived p payload ∧ helloIntact payload = false)
      ∨ (c = .creditReceived p payload ∧ creditIntact payload = false)
      ∨ (c = .idleReceived p payload ∧ idleIntact payload = false)) →
    let counted : PortCounters := { (s.port p).counters with checkFailures := bump (s.port p).counters.checkFailures }
    ((s.port p).state = .training → exec c s = .next (s.setPort p { s.port p with run := 0, counters := counted })) ∧
    ((s.port p).state = .up →
      exec c s = .next (s.setPort p { s.port p with silence := some 64, counters := counted })) ∧
    ((s.port p).state = .down → exec c s = .next s)

/-- An undamaged CREDIT in UP adds one send credit, or is counted as excess at the partner's capacity, and outside UP is
ignored; an undamaged IDLE, or HELLO with ready yes, in UP restarts the silence timer alone, and a HELLO in DOWN is
ignored; a port in UP with credits owed sends a CREDIT and owes one less (R170, R172, R174, R178, R179). A HELLO in UP
with ready no is LinkLossIsOneEffect's. -/
def Obligations.SymbolsOfALinkThatIsUp : Prop :=
  ∀ (s : State) (p : PortId) (payload : Word), s.resetLow = false →
    (creditIntact payload = true →
      ((s.port p).state = .up → (s.port p).credit < (s.port p).capacity →
        exec (.creditReceived p payload) s =
          .next (s.setPort p { s.port p with silence := some 64, credit := (s.port p).credit + 1 })) ∧
      ((s.port p).state = .up → (s.port p).capacity ≤ (s.port p).credit →
        exec (.creditReceived p payload) s = .next (s.setPort p { s.port p with
          silence := some 64
          counters := { (s.port p).counters with excessCredits := bump (s.port p).counters.excessCredits } })) ∧
      ((s.port p).state ≠ .up → exec (.creditReceived p payload) s = .next s)) ∧
    (idleIntact payload = true →
      ((s.port p).state = .up →
        exec (.idleReceived p payload) s = .next (s.setPort p { s.port p with silence := some 64 })) ∧
      ((s.port p).state ≠ .up → exec (.idleReceived p payload) s = .next s)) ∧
    (helloIntact payload = true →
      ((s.port p).state = .up → helloReady payload = true →
        exec (.helloReceived p payload) s = .next (s.setPort p { s.port p with silence := some 64 })) ∧
      ((s.port p).state = .down → exec (.helloReceived p payload) s = .next s)) ∧
    ((s.port p).state = .up → 0 < (s.port p).owed →
      exec (.sendCredit p) s = .next (s.setPort p { s.port p with owed := (s.port p).owed - 1, tx := .credit }))

/-! ### Link losses -/

/-- The causes of a link loss that come from the line have one effect, that of the silence timer's expiry: an undamaged
HELLO with ready no, and a fourth packet in a row that fails its check sequence, which is also counted (R174, R175). -/
def Obligations.LinkLossIsOneEffect : Prop :=
  ∀ (s : State) (p : PortId), s.resetLow = false → (s.port p).state = .up →
    (∀ payload, helloIntact payload = true → helloReady payload = false →
      exec (.helloReceived p payload) s = exec (.silenceTimeout p) (s.setPort p { s.port p with silence := some 0 })) ∧
    (∀ chars, s.rxLength p < 8 → (s.port p).failRun = 3 →
      (match p with
        | .upper => receiptUpper chars = .checkFailure
        | .lower => receiptLower chars = .checkFailure) →
      ∃ o d, (s.port p).Owes o d ∧
        exec (.packetReceived p chars) s = exec (.silenceTimeout p) (s.setPort p { s.port p with
        silence := some 0, draws := d
        counters := { (s.port p).counters with checkFailures := bump (s.port p).counters.checkFailures } }))

/-- An upper link loss, with no branch reset pending, ends the session (R47, R63, R65, R97, R124, R150, R175, R176). -/
def Obligations.UpperLinkLossEndsTheSession : Prop :=
  ∀ s : State, s.resetLow = false → s.upper.state = .up → s.upper.silence = some 0 → s.mgmt.resetPending = false →
    s.RefsAgree → s.RecordsPlaced → s.MgmtPlaced → ∃ t, exec (.silenceTimeout .upper) s = .next t ∧
    t.upper = { s.upper with
      state := .training, credit := 0, owed := 0, run := 0, reachedThree := false, readySeen := false,
      readySent := false, helloTimer := some 10, trainTimer := some 64, silence := none, failRun := 0,
      tx := .hello false, counters := { s.upper.counters with retrains := bump s.upper.counters.retrains } } ∧
    t.upperRx = [] ∧ t.lowerRx = [] ∧ t.lowerTx = s.lowerTx.filter (fun q => !q.drain) ∧ t.pointer = .mgmtResponses ∧
    t.classifier = { s.classifier with stall := .none, refusals := [] } ∧
    (s.lower.state = .up → s.lower.owed + s.lowerRx.length ≤ 8 →
      t.lower = { s.lower with owed := s.lower.owed + s.lowerRx.length }) ∧
    (s.lower.state ≠ .up → t.lower = s.lower) ∧
    (∀ i, t.transAt i = (s.transAt i).bind fun r =>
      if r.state = .issued then some { r with orphan := true } else none) ∧
    t.RefsAgree ∧ (∀ b, t.bank b = { s.bank b with refs := (t.bank b).refs }) ∧
    t.windows.selector = s.windows.selector ∧
    (∀ i, t.mgmtAt i = (s.mgmtAt i).bind fun r =>
      if r.state = .executing then some { r with orphan := true } else none) ∧
    t.MgmtPlaced ∧ t.records.localResponses = [] ∧ t.records.mgmtResponses = [] ∧
    (∀ k, t.tap k =
      match (s.tap k).state with
      | .held | .retryWait => { s.tap k with state := .idle, queue := [], retryTimer := none }
      | .issued => { s.tap k with queue := (s.tap k).queue.take 1 }
      | .idle | .faulted | .disabled => { s.tap k with queue := [] }) ∧
    t.attention = { s.attention with
      newList := none, timer := none, packet := none, flagsAnnounced := 0
      sequence := if s.attention.newList.isSome then s.attention.sequence + 1 else s.attention.sequence } ∧
    t.watches = s.watches ∧ t.mgmt = s.mgmt ∧ t.timeBase = s.timeBase ∧ t.pending = s.pending ∧ t.resetLow = false

/-- An upper link loss while a branch reset is pending carries both effects in one event: the reset's for what the reset
resets, the loss's for what it keeps. No record survives, counters, parameters, flags, watches and hit counts take their
reset values, taps are DISABLED, and buffers, queues, pointer and port are as the loss leaves them (R25, R47, R67, R96,
R112, R127, R148, R149, R175, R176, R183). What becomes of a rise of TtACK that waits at a tap is log 27. -/
def Obligations.UpperLinkLossTakesThePendingReset : Prop :=
  ∀ s : State, s.resetLow = false → s.upper.state = .up → s.upper.silence = some 0 → s.mgmt.resetPending = true →
    ∃ t, exec (.silenceTimeout .upper) s = .next t ∧
    t.upper = { s.upper with
      state := .training, credit := 0, owed := 0, run := 0, reachedThree := false, readySeen := false,
      readySent := false, helloTimer := some 10, trainTimer := some 64, silence := none, failRun := 0,
      tx := .hello false, counters := ⟨0, 0, 0, 0, 0, 0, 0⟩ } ∧
    (s.lower.state = .up → s.lower.owed + s.lowerRx.length ≤ 8 →
      t.lower = { s.lower with owed := s.lower.owed + s.lowerRx.length, counters := ⟨0, 0, 0, 0, 0, 0, 0⟩ }) ∧
    (s.lower.state ≠ .up → t.lower = { s.lower with counters := ⟨0, 0, 0, 0, 0, 0, 0⟩ }) ∧
    t.upperRx = [] ∧ t.lowerRx = [] ∧ t.lowerTx = s.lowerTx.filter (fun q => !q.drain) ∧ t.pointer = .mgmtResponses ∧
    t.classifier = { stall := .none, paused := false, refusals := [] } ∧ t.windows.selector = s.windows.selector ∧
    (∀ b, (t.bank b).state = (s.bank b).state ∧ (t.bank b).contents = (s.bank b).contents ∧ (t.bank b).refs = 0 ∧
      ∀ (e : Fin 32) (w : Window), (t.bank b).entries[e] = some w → w.hits = 0) ∧
    (∀ j, t.transAt j = none) ∧ (∀ j, t.mgmtAt j = none) ∧
    t.records.localResponses = [] ∧ t.records.mgmtQueue = [] ∧ t.records.mgmtResponses = [] ∧
    (∀ k, t.tap k = { s.tap k with
      state := .disabled, disablePending := false, queue := [], ackTimer := none, retryTimer := none,
      presented := none, driving := false, rises := [], transfers := (s.tap k).transfersAtEnd,
      mode0 := false, mode1 := false
      counters := ⟨0, 0, 0, ({ s.tap k with counters := ⟨0, 0, 0, 0, 0⟩ } : Tap).lateAtEnd, 0⟩ }) ∧
    (∀ n, t.watch n = { s.watch n with armed := false, hits := 0 }) ∧
    t.attention = { flagsSet := 0, flagsEnabled := 0, flagsAnnounced := 0, sequence := 0, newList := none,
                    timer := none, packet := none } ∧
    t.mgmt.resetPending = false ∧ t.mgmt.refusals = 0 ∧ t.mgmt.depthOverflows = 0 ∧ t.mgmt.reAnnounces = 0 ∧
    (∀ k : Fin 4, t.mgmt.params.ackLimit[k] = 1000) ∧ t.mgmt.params.retryLimit = 3 ∧ t.mgmt.params.retryDelay = 50 ∧
    t.mgmt.params.waitLimit = 0 ∧ t.mgmt.params.reannounce = 0 ∧ t.mgmt.params.clearWhileHeld = false ∧
    t.mgmt.params.lowerEnable = s.mgmt.params.lowerEnable ∧ t.timeBase = s.timeBase ∧ t.pending = s.pending ∧
    t.resetLow = false

/-- A lower link loss leaves the session standing: LOWER_LINK is set, the lower receive buffer is emptied, the lower
transmit queue drains as NO_ROUTE refusals as far as the refusal queue has room, and a held pass becomes a held refusal
(R42, R43, R113, R175, R177). -/
def Obligations.LowerLinkLossDrains : Prop :=
  ∀ s : State, s.resetLow = false → s.lower.state = .up → s.lower.silence = some 0 → s.QueuesAgree →
    ∃ t, exec (.silenceTimeout .lower) s = .next t ∧
    t.lower = { s.lower with
      state := .training, credit := 0, owed := 0, run := 0, reachedThree := false, readySeen := false,
      readySent := false, helloTimer := some 10, trainTimer := some 64, silence := none, failRun := 0,
      tx := .hello false, counters := { s.lower.counters with retrains := bump s.lower.counters.retrains } } ∧
    t.lowerRx = [] ∧
    t.lowerTx = (s.lowerTx.drop (8 - s.classifier.refusals.length)).map (fun q => { q with drain := true }) ∧
    t.classifier.refusals = s.classifier.refusals ++
      (s.lowerTx.take (8 - s.classifier.refusals.length)).map (fun q => q.packet.refusal .noRoute) ∧
    t.classifier.stall = (match s.classifier.stall with
      | .onLower p => .onRefusal (p.refusal .noRoute)
      | x => x) ∧
    t.mgmt = { s.mgmt with
      refusals := addCount s.mgmt.refusals (min s.lowerTx.length (8 - s.classifier.refusals.length)) } ∧
    s.FlagRaised t 16 ∧ t.classifier.paused = s.classifier.paused ∧
    t.upper = s.upper ∧ t.upperRx = s.upperRx ∧ t.records = s.records ∧ t.taps = s.taps ∧ t.windows = s.windows ∧
    t.watches = s.watches ∧ t.pointer = s.pointer ∧ t.timeBase = s.timeBase ∧ t.pending = s.pending ∧
    t.resetLow = false

/-! ### The transmitters -/

/-- LOWER_SEND sends the head of the lower transmit queue for one credit, and a pass held by a stall enters the slot, its
packet leaving the upper receive buffer; a drain packet at the head is not sent (R40, R43, R178, R180). That it waits
while a CREDIT is due is log 8. -/
def Obligations.LowerSendTakesTheHead : Prop :=
  ∀ (s : State) (q : QueuedPass) (rest : List QueuedPass), s.MaySend .lower → s.QueuesAgree → s.lowerTx = q :: rest →
    (q.drain = true → exec .lowerSend s = .next s) ∧
    (q.drain = false → (∀ p, s.classifier.stall ≠ .onLower p) →
      exec .lowerSend s = .next { s with
        lowerTx := rest, lower := { s.lower with credit := s.lower.credit - 1, tx := .down q.packet } }) ∧
    (q.drain = false → ∀ p, s.classifier.stall = .onLower p → s.upper.state = .up → ∃ o d, s.upper.Owes o d ∧
      exec .lowerSend s = .next { s with
        lowerTx := rest ++ [{ packet := p.descended, drain := false }]
        lower := { s.lower with credit := s.lower.credit - 1, tx := .down q.packet }
        classifier := { s.classifier with stall := .none }
        upperRx := s.upperRx.tail, upper := { s.upper with owed := o, draws := d } })

/-- The arbiter sends the pending attention packet ahead of every source, moving neither pointer nor announcer; otherwise
it serves the first source that is not empty, from its pointer on and round from the last to the first (R118, R181,
R182). -/
def Obligations.ArbiterOrder : Prop :=
  (∀ (s : State) (a : AttnPacket), s.MaySend .upper → s.attention.packet = some a →
    exec .arbiterSend s = .next { s with
      upper := { s.upper with
        credit := s.upper.credit - 1
        tx := .up (.attn 0 a.sequence (a.setList.setWidth 32) (a.newList.setWidth 32) 0) }
      attention := { s.attention with packet := none } }) ∧
  (∀ s : State,
    (s.waiting s.pointer = true → s.chosen? = some s.pointer) ∧
    (s.waiting s.pointer = false → s.waiting s.pointer.next = true → s.chosen? = some s.pointer.next) ∧
    (s.waiting s.pointer = false → s.waiting s.pointer.next = false → s.waiting s.pointer.next.next = true →
      s.chosen? = some s.pointer.next.next) ∧
    (s.waiting s.pointer = false → s.waiting s.pointer.next = false → s.waiting s.pointer.next.next = false →
      s.waiting s.pointer.next.next.next = true → s.chosen? = some s.pointer.next.next.next) ∧
    (s.chosen? = none → s.attention.packet = none → exec .arbiterSend s = .next s)) ∧
  Source.next .mgmtResponses = .localResponses ∧ Source.next .localResponses = .refusals ∧
  Source.next .refusals = .lowerRx ∧ Source.next .lowerRx = .mgmtResponses

/-- A record's answer is sent for one credit and frees the record: a transaction record's tag and its bank's reference
with it, a management answer with depth 0 (R59, R60, R61, R131, R154, R181, R182). -/
def Obligations.ArbiterSendsAnswersAndFreesRecords : Prop :=
  ∀ s : State, s.MaySend .upper → s.attention.packet = none →
    (∀ i r code rest, s.chosen? = some .localResponses → s.records.localResponses = i :: rest →
      s.transAt i = some r → r.code = some code →
      exec .arbiterSend s = .next { s with
        upper := { s.upper with
          credit := s.upper.credit - 1
          tx := .up (match r.kind with
            | .read => .readDone r.tag code (r.readData.getD []) 0
            | .write => .writeDone r.tag code 0) }
        records := { s.records with trans := s.records.trans.set i none, localResponses := rest }
        windows := s.windows.setBank r.bank { s.bank r.bank with refs := (s.bank r.bank).refs - 1 }
        pointer := .refusals }) ∧
    (∀ i r a rest, s.chosen? = some .mgmtResponses → s.records.mgmtResponses = i :: rest →
      s.mgmtAt i = some r → r.answer = some a →
      s.mgmt.resetPending = false ∨ r.operation ≠ 0x7E ∨ a.code ≠ .ok →
      exec .arbiterSend s = .next { s with
        upper := { s.upper with credit := s.upper.credit - 1, tx := .up (.mgmtDone r.tag 0 a.code a.result 0) }
        records := { s.records with mgmt := s.records.mgmt.set i none, mgmtResponses := rest }
        pointer := .localResponses })

/-- The sending of a pending Branch Reset's answer sets the reset off: each block resets what it owns and keeps the rest
(R25, R46, R67, R96, R112, R127, R147, R148, R183, R186). What becomes of a rise of TtACK that waits at a tap is log 27. -/
def Obligations.BranchResetTakesEffectAsItsAnswerLeaves : Prop :=
  ∀ (s : State) (i : Fin 3) (r : MgmtRecord) (rest : List (Fin 3)), s.MaySend .upper →
    s.attention.packet = none → s.chosen? = some .mgmtResponses → s.records.mgmtResponses = i :: rest →
    s.mgmtAt i = some r → r.answer = some { code := .ok, result := [] } → r.operation = 0x7E →
    s.mgmt.resetPending = true → ∃ t, exec .arbiterSend s = .next t ∧
    t.upper = { s.upper with
      credit := s.upper.credit - 1, tx := .up (.mgmtDone r.tag 0 .ok [] 0), counters := ⟨0, 0, 0, 0, 0, 0, 0⟩ } ∧
    t.lower = { s.lower with counters := ⟨0, 0, 0, 0, 0, 0, 0⟩ } ∧
    t.upperRx = s.upperRx ∧ t.lowerRx = s.lowerRx ∧ t.lowerTx = s.lowerTx ∧ t.pointer = .localResponses ∧
    t.classifier = { s.classifier with paused := false } ∧ t.windows.selector = s.windows.selector ∧
    (∀ b, (t.bank b).state = (s.bank b).state ∧ (t.bank b).contents = (s.bank b).contents ∧ (t.bank b).refs = 0 ∧
      ∀ (e : Fin 32) (w : Window), (t.bank b).entries[e] = some w → w.hits = 0) ∧
    (∀ j, t.transAt j = none) ∧ (∀ j, t.mgmtAt j = none) ∧
    t.records.localResponses = [] ∧ t.records.mgmtQueue = [] ∧ t.records.mgmtResponses = [] ∧
    (∀ k, t.tap k = { s.tap k with
      state := .disabled, disablePending := false, queue := [], ackTimer := none, retryTimer := none,
      presented := none, driving := false, rises := [], transfers := (s.tap k).transfersAtEnd,
      mode0 := false, mode1 := false
      counters := ⟨0, 0, 0, ({ s.tap k with counters := ⟨0, 0, 0, 0, 0⟩ } : Tap).lateAtEnd, 0⟩ }) ∧
    (∀ n, t.watch n = { s.watch n with armed := false, hits := 0 }) ∧
    t.attention = { flagsSet := 0, flagsEnabled := 0, flagsAnnounced := 0, sequence := 0, newList := none,
                    timer := none, packet := none } ∧
    t.mgmt.resetPending = false ∧ t.mgmt.refusals = 0 ∧ t.mgmt.depthOverflows = 0 ∧ t.mgmt.reAnnounces = 0 ∧
    (∀ k : Fin 4, t.mgmt.params.ackLimit[k] = 1000) ∧ t.mgmt.params.retryLimit = 3 ∧ t.mgmt.params.retryDelay = 50 ∧
    t.mgmt.params.waitLimit = 0 ∧ t.mgmt.params.reannounce = 0 ∧ t.mgmt.params.clearWhileHeld = false ∧
    t.mgmt.params.lowerEnable = s.mgmt.params.lowerEnable ∧ t.timeBase = s.timeBase ∧ t.pending = s.pending ∧
    t.resetLow = false

/-- A refusal is sent for one credit, and its slot takes the oldest drain packet, or a held refusal when none drains; a
relayed packet is sent with the depth of a MGMT_DONE or ATTN one greater, its slot owed below (R38, R41, R43, R154, R156,
R181, R182). That a held pass enters the place a drain packet leaves is log 24. -/
def Obligations.ArbiterSendsRefusalsAndRelays : Prop :=
  ∀ s : State, s.MaySend .upper → s.attention.packet = none → s.QueuesAgree →
    (∀ x rest, s.chosen? = some .refusals → s.classifier.refusals = x :: rest →
      let sent : Port := { s.upper with
        credit := s.upper.credit - 1
        tx := .up (match x.kind with
          | .readDone => .readDone x.tag x.code [] 0
          | .writeDone => .writeDone x.tag x.code 0
          | .mgmtDone => .mgmtDone x.tag 0 x.code [] 0) }
      (s.lowerTx.any (·.drain) = false → (∀ h, s.classifier.stall ≠ .onRefusal h) →
        exec .arbiterSend s = .next { s with
          upper := sent, pointer := .lowerRx, classifier := { s.classifier with refusals := rest } }) ∧
      (s.lowerTx.any (·.drain) = false → ∀ h, s.classifier.stall = .onRefusal h → ∃ o d, s.upper.Owes o d ∧
        exec .arbiterSend s = .next { s with
          upper := { sent with owed := o, draws := d }, upperRx := s.upperRx.tail, pointer := .lowerRx
          classifier := { s.classifier with refusals := rest ++ [h], stall := .none }
          mgmt := { s.mgmt with refusals := bump s.mgmt.refusals } }) ∧
      (∀ q qs, s.lowerTx = q :: qs → q.drain = true → (∀ p, s.classifier.stall ≠ .onLower p) →
        exec .arbiterSend s = .next { s with
          upper := sent, pointer := .lowerRx, lowerTx := qs
          classifier := { s.classifier with refusals := rest ++ [q.packet.refusal .noRoute] }
          mgmt := { s.mgmt with refusals := bump s.mgmt.refusals } }) ∧
      (∀ q qs p, s.lowerTx = q :: qs → q.drain = true → s.classifier.stall = .onLower p → ∃ o d, s.upper.Owes o d ∧
        exec .arbiterSend s = .next { s with
          upper := { sent with owed := o, draws := d }, upperRx := s.upperRx.tail, pointer := .lowerRx
          lowerTx := qs ++ [{ packet := p.descended, drain := false }]
          classifier := { s.classifier with refusals := rest ++ [q.packet.refusal .noRoute], stall := .none }
          mgmt := { s.mgmt with refusals := bump s.mgmt.refusals } })) ∧
    (∀ u rest, s.chosen? = some .lowerRx → s.lowerRx = u :: rest → u.depthFull = false →
      (s.lower.state = .up → ∃ o d, s.lower.Owes o d ∧ exec .arbiterSend s = .next { s with
        upper := { s.upper with
          credit := s.upper.credit - 1
          tx := .up (match u with
            | .mgmtDone tag depth code result z => .mgmtDone tag (depth + 1) code result z
            | .attn depth sequence setList newList z => .attn (depth + 1) sequence setList newList z
            | x => x) }
        lower := { s.lower with owed := o, draws := d }, lowerRx := rest, pointer := .mgmtResponses }))

/-! ### The classifier -/

/-- A pass at the head: a MGMT with hop above 0 (its hop one less), a request while no bank is active, a request that
matches a PASS entry, or one that matches nothing under a PASS miss action. With the lower port UP it enters the lower
transmit queue or stalls on it; otherwise it is refused NO_ROUTE, or stalls on the refusal queue (R4, R6, R27, R29, R32,
R40, R41). A match has raised its hit count first (R5). -/
def Obligations.PassesGoDownOrAreRefused : Prop :=
  ∀ (s u : State) (p : Down) (rest : List Down), s.resetLow = false → s.upper.state = .up →
    s.classifier.paused = false → s.classifier.stall = .none → s.upperRx = p :: rest →
    ((∃ m, p = .mgmt m ∧ m.hop ≠ 0 ∧ u = s) ∨
      (∃ q, p = .request q ∧ s.windows.selector = none ∧ u = s) ∨
      (∃ q b, p = .request q ∧ s.windows.selector = some b ∧ (s.bank b).match? q.address = none ∧
        (s.bank b).missAction = .pass ∧ u = s) ∨
      (∃ q b e w, p = .request q ∧ s.windows.selector = some b ∧ (s.bank b).match? q.address = some e ∧
        (s.bank b).entries[e] = some w ∧ w.action = .pass ∧ u = s.modBank b fun x => x.countHit e)) →
    (s.lower.state = .up → s.lowerTx.length < 8 → ∃ o d, s.upper.Owes o d ∧
      exec .classifyPacket s = .next { u with
        lowerTx := s.lowerTx ++ [{ packet := (match p with
          | .request q => .request q
          | .mgmt m => .mgmt { m with hop := m.hop - 1 }), drain := false }]
        upperRx := rest, upper := { s.upper with owed := o, draws := d } }) ∧
    (s.lower.state = .up → 8 ≤ s.lowerTx.length →
      exec .classifyPacket s = .next { u with classifier := { s.classifier with stall := .onLower p } }) ∧
    (s.lower.state ≠ .up → s.canRefuse = true → ∃ o d, s.upper.Owes o d ∧
      exec .classifyPacket s = .next { u with
        classifier := { s.classifier with refusals := s.classifier.refusals ++ [p.refusal .noRoute] }
        mgmt := { s.mgmt with refusals := bump s.mgmt.refusals }
        upperRx := rest, upper := { s.upper with owed := o, draws := d } }) ∧
    (s.lower.state ≠ .up → s.canRefuse = false →
      exec .classifyPacket s = .next { u with
        classifier := { s.classifier with stall := .onRefusal (p.refusal .noRoute) } })

/-- Lookup takes the lowest-indexed valid entry whose range, base to base plus size in whole numbers, holds the address,
and a match raises that entry's hit count by 1 up to 65535 and nothing else of the bank (R3, R5, R22). -/
def Obligations.LookupTakesTheLowestIndex : Prop :=
  ∀ (b : Bank) (a : Word) (e : Fin 32),
    (b.match? a = some e ↔
      (∃ w, b.entries[e] = some w ∧ w.base.toNat ≤ a.toNat ∧ a.toNat < w.base.toNat + 2 ^ w.sizeExponent) ∧
      ∀ (j : Fin 32) (w : Window), j < e → b.entries[j] = some w →
        ¬ (w.base.toNat ≤ a.toNat ∧ a.toNat < w.base.toNat + 2 ^ w.sizeExponent)) ∧
    (b.match? a = none ↔ ∀ (j : Fin 32) (w : Window), b.entries[j] = some w →
        ¬ (w.base.toNat ≤ a.toNat ∧ a.toNat < w.base.toNat + 2 ^ w.sizeExponent)) ∧
    (∀ w, b.entries[e] = some w → b.countHit e = { b with
      entries := b.entries.set e (some { w with hits := BitVec.ofNat 16 (min (w.hits.toNat + 1) 65535) }) })

/-- A request turned away: by a REJECT entry or miss action with REFUSED, or by the first of the eight claim checks it
fails with that check's code. Its refusal enters the refusal queue and is counted, or the classifier stalls holding it
(R5, R6, R31, R33, R34, R35, R36, R38, R39, R41). -/
def Obligations.RefusedRequestsCarryTheFirstFailingCheck : Prop :=
  ∀ (s u : State) (q : Request) (rest : List Down) (b : BankId) (code : Code),
    s.resetLow = false → s.upper.state = .up → s.classifier.paused = false → s.classifier.stall = .none →
    s.upperRx = .request q :: rest → s.windows.selector = some b →
    (((s.bank b).match? q.address = none ∧ (s.bank b).missAction = .reject ∧ code = .refused ∧ u = s) ∨
      (∃ e w, (s.bank b).match? q.address = some e ∧ (s.bank b).entries[e] = some w ∧
        u = (s.modBank b fun x => x.countHit e) ∧
        ((w.action = .reject ∧ code = .refused) ∨
          (w.action = .claim ∧ ∃ k, w.tap = some k ∧
            let denied := ¬ ((q.kind = .read → w.permitsRead = true) ∧ (q.kind = .write → w.permitsWrite = true))
            let tooLong := (w.maxLength.getD 16) < q.length
            let boundary := w.base.toNat + 2 ^ w.sizeExponent ≤ q.address.toNat + q.length - 1
            let disabled := (s.tap k).state = .disabled ∨ ((s.tap k).state = .issued ∧ (s.tap k).disablePending = true)
            let faulted := (s.tap k).state = .faulted
            let inUse := (∃ i r, s.transAt i = some r ∧ r.tag = q.tag) ∨ (∃ i r, s.mgmtAt i = some r ∧ r.tag = q.tag)
            let full := 6 ≤ (s.tap k).queue.length
            let branchFull := ∀ i, s.transAt i ≠ none
            (denied ∧ code = .denied) ∨
            (¬ denied ∧ tooLong ∧ code = .tooLong) ∨
            (¬ denied ∧ ¬ tooLong ∧ boundary ∧ code = .boundary) ∨
            (¬ denied ∧ ¬ tooLong ∧ ¬ boundary ∧ disabled ∧ code = .tapDisabled) ∨
            (¬ denied ∧ ¬ tooLong ∧ ¬ boundary ∧ ¬ disabled ∧ faulted ∧ code = .tapFault) ∨
            (¬ denied ∧ ¬ tooLong ∧ ¬ boundary ∧ ¬ disabled ∧ ¬ faulted ∧ inUse ∧ code = .tagInUse) ∨
            (¬ denied ∧ ¬ tooLong ∧ ¬ boundary ∧ ¬ disabled ∧ ¬ faulted ∧ ¬ inUse ∧ full ∧ code = .queueFull) ∨
            (¬ denied ∧ ¬ tooLong ∧ ¬ boundary ∧ ¬ disabled ∧ ¬ faulted ∧ ¬ inUse ∧ ¬ full ∧ branchFull ∧
              code = .branchFull))))) →
    let refusal : Refused := { kind := if q.kind = .read then .readDone else .writeDone, tag := q.tag, code }
    (s.canRefuse = true → ∃ o d, s.upper.Owes o d ∧
      exec .classifyPacket s = .next { u with
        classifier := { s.classifier with refusals := s.classifier.refusals ++ [refusal] }
        mgmt := { s.mgmt with refusals := bump s.mgmt.refusals }
        upperRx := rest, upper := { s.upper with owed := o, draws := d } }) ∧
    (s.canRefuse = false →
      exec .classifyPacket s = .next { u with classifier := { s.classifier with stall := .onRefusal refusal } })

/-- A claim that passes the checks fills the lowest FREE record as R37 gives, raises its bank's reference count, is
evaluated by both watches (R99, R100) and joins the tail of its tap's queue (R37). -/
def Obligations.ClaimFillsTheLowestFreeRecord : Prop :=
  ∀ (s : State) (q : Request) (rest : List Down) (b : BankId) (e : Fin 32) (w : Window) (k : Fin 4) (i : Fin 16),
    s.resetLow = false → s.upper.state = .up → s.classifier.paused = false → s.classifier.stall = .none →
    s.upperRx = .request q :: rest → s.windows.selector = some b → (s.bank b).match? q.address = some e →
    (s.bank b).entries[e] = some w → w.action = .claim → w.tap = some k →
    (match q.kind with | .read => w.permitsRead | .write => w.permitsWrite) = true →
    q.length ≤ w.maxLength.getD 16 → q.address.toNat + q.length - 1 < w.base.toNat + 2 ^ w.sizeExponent →
    ((s.tap k).state = .idle ∨ (s.tap k).state = .retryWait ∨ (s.tap k).state = .held ∨
      ((s.tap k).state = .issued ∧ (s.tap k).disablePending = false)) →
    s.tagInUse q.tag = false → (s.tap k).queue.length < 6 →
    s.transAt i = none → (∀ j, j < i → s.transAt j ≠ none) →
    let matched : Fin 2 → Bool := fun n =>
      (s.watch n).armed && decide ((s.watch n).low.toNat ≤ q.address.toNat ∧ q.address.toNat ≤ (s.watch n).high.toNat)
        && (match q.kind with | .read => (s.watch n).reads | .write => (s.watch n).writes)
        && ((s.watch n).tap == none || (s.watch n).tap == some k)
    ∃ t o d, s.upper.Owes o d ∧ exec .classifyPacket s = .next t ∧
      t = { s with
        records := { s.records with trans := s.records.trans.set i (some
          { state := .queued, tag := q.tag, kind := q.kind, address := q.address, length := q.length, bank := b,
            entry := e, tap := k, writeData := if q.kind = .write then some q.data else none, readData := none,
            code := none, retryCount := 0
            hold := (matched 0 && (s.watch 0).hold) || (matched 1 && (s.watch 1).hold)
            waitRemaining := if s.mgmt.params.waitLimit = 0 then none else some s.mgmt.params.waitLimit
            orphan := false }) }
        windows := s.windows.setBank b { (s.bank b).countHit e with refs := (s.bank b).refs + 1 }
        taps := s.taps.set k { s.tap k with queue := (s.tap k).queue ++ [i] }
        watches := t.watches, upperRx := rest, upper := { s.upper with owed := o, draws := d } } ∧
      ∀ n, t.watch n = if matched n then
        { s.watch n with hits := bump (s.watch n).hits, armed := !(s.watch n).oneShot } else s.watch n

/-- A MGMT packet with hop 0: refused TAG_IN_USE when its tag is held, else MGMT_BUSY when no management record is free,
else kept in the lowest free one, WAITING at the tail of the management queue (R30). -/
def Obligations.MgmtPacketIsKeptOrRefused : Prop :=
  ∀ (s : State) (m : MgmtPacket) (rest : List Down), s.resetLow = false → s.upper.state = .up →
    s.classifier.paused = false → s.classifier.stall = .none → s.upperRx = .mgmt m :: rest → m.hop = 0 →
    (∀ code, (s.tagInUse m.tag = true ∧ code = Code.tagInUse) ∨
        (s.tagInUse m.tag = false ∧ (∀ j, s.mgmtAt j ≠ none) ∧ code = Code.mgmtBusy) →
      (s.canRefuse = true → ∃ o d, s.upper.Owes o d ∧
        exec .classifyPacket s = .next { s with
          classifier := { s.classifier with
            refusals := s.classifier.refusals ++ [{ kind := .mgmtDone, tag := m.tag, code }] }
          mgmt := { s.mgmt with refusals := bump s.mgmt.refusals }
          upperRx := rest, upper := { s.upper with owed := o, draws := d } }) ∧
      (s.canRefuse = false →
        exec .classifyPacket s = .next { s with
          classifier := { s.classifier with stall := .onRefusal { kind := .mgmtDone, tag := m.tag, code } } })) ∧
    (∀ i, s.tagInUse m.tag = false → s.mgmtAt i = none → (∀ j, j < i → s.mgmtAt j ≠ none) → ∃ o d, s.upper.Owes o d ∧
      exec .classifyPacket s = .next { s with
        records := { s.records with
          mgmt := s.records.mgmt.set i (some
            { state := .waiting, tag := m.tag, operation := m.operation, operands := m.operands, answer := none,
              orphan := false })
          mgmtQueue := s.records.mgmtQueue ++ [i] }
        upperRx := rest, upper := { s.upper with owed := o, draws := d } })

/-! ### Tap ports -/

/-- An IDLE tap examines its head: without a hold mark it is issued, at the local address of its bank and entry; with one
the tap is HELD and its HELD flag set (R23, R72, R74, R75, R84, R114, R116). -/
def Obligations.ExaminationIssuesOrHolds : Prop :=
  ∀ (s : State) (k : Fin 4) (i : Fin 16) (r : TransRecord), s.Serving k .idle i r → (s.tap k).transfers = [] →
    (r.hold = false → ∀ w l, (s.bank r.bank).entries[r.entry] = some w → w.localBase = some l →
      exec (.examineHead k) s = .next ((s.setTrans i (some { r with state := .issued, waitRemaining := none })).modTap k
        fun p => { p with
          state := .issued, ackTimer := some s.mgmt.params.ackLimit[k], retryTimer := none
          presented := some { kind := r.kind, length := r.length, data := r.writeData.getD []
                              localAddress := BitVec.ofNat 24 (l.toNat + (r.address.toNat - w.base.toNat)) }
          driving := true, counters := { p.counters with issues := bump p.counters.issues } })) ∧
    (r.hold = true → ∃ t, exec (.examineHead k) s = .next t ∧ s.FlagRaised t (4 * k.val + 3) ∧
      t = { (s.setTrans i (some { r with state := .held })).modTap k (fun p => { p with state := .held }) with
            attention := t.attention })

/-- A rise of TtACK while the part drives TtD waits, and is taken when the part releases TtD as it would be then. An
acknowledge that carries no data, taken in ISSUED with no disable pending, for a record that is no orphan: DONE for a WRITE,
ERROR (2 kinds of strobe), RETRY below the limit and at it. Orphans and a pending disable have statements of their own (R76,
R191). -/
def Obligations.AcknowledgeWithoutDataEndsOrRetries : Prop :=
  ∀ (s : State) (k : Fin 4) (i : Fin 16) (r : TransRecord) (q : TapRequest), s.Serving k .issued i r →
    (s.tap k).presented = some q → q.kind = r.kind →
    ((s.tap k).driving = true →
      (∀ a, exec (.tapAcknowledge k (.strobe a)) s =
        .next (s.modTap k fun p => { p with rises := p.rises ++ [a] })) ∧
      ((s.tap k).rises = [] →
        exec (.tapAcknowledge k .release) s = .next (s.modTap k fun p => { p with driving := false })) ∧
      (∀ a, (s.tap k).rises = [a] → exec (.tapAcknowledge k .release) s =
        exec (.tapAcknowledge k (.strobe a)) (s.modTap k fun p => { p with driving := false, rises := [] }))) ∧
    (s.Listening k → (s.tap k).disablePending = false → r.orphan = false →
      (r.kind = .write →
        exec (.tapAcknowledge k (.strobe 0)) s = .next ((s.headAnswered k i r .ok none).modTap k fun p =>
          { p with state := .idle, ackTimer := none, presented := none })) ∧
      (∀ a, a = 1#2 ∨ a = 3#2 →
        exec (.tapAcknowledge k (.strobe a)) s = .next ((s.headAnswered k i r .deviceError none).modTap k fun p =>
          { p with state := .idle, ackTimer := none, presented := none })) ∧
      (r.retryCount < s.mgmt.params.retryLimit →
        exec (.tapAcknowledge k (.strobe 2)) s = .next
          ((s.setTrans i (some { r with state := .retryWait, retryCount := r.retryCount + 1 })).modTap k fun p =>
            { p with state := .retryWait, ackTimer := none, presented := none
                     retryTimer := some s.mgmt.params.retryDelay })) ∧
      (s.mgmt.params.retryLimit ≤ r.retryCount →
        exec (.tapAcknowledge k (.strobe 2)) s = .next ((s.headAnswered k i r .deviceBusy none).modTap k fun p =>
          { p with state := .idle, ackTimer := none, presented := none })))

/-- The DONE of a READ: each strobe has its own transfer of four bytes a word, and a byte that ends none is kept. The byte
that is the last of a transfer answers a record that is no orphan, with no disable pending, OK with the words of the oldest it
ends, read most significant byte first (the byte order is log 13); any other that it ends is late (R73, R76, R79, R191). Which
of several transfers take a byte is log 12, that one takes it while the part drives TtD is the model's choice, log 32, and
what becomes of a rise of TtACK that waits is log 27. The tap is left IDLE and the record behind is examined in an event of its
own, the model's reading of R74 (log 14). -/
def Obligations.ReadDoneTakesItsBytes : Prop :=
  ∀ (s : State) (k : Fin 4) (i : Fin 16) (r : TransRecord) (q : TapRequest), s.Serving k .issued i r →
    r.kind = .read → (s.tap k).presented = some q → q.kind = .read →
    (s.Listening k → exec (.tapAcknowledge k (.strobe 0)) s =
      .next (s.modTap k fun p => { p with transfers := p.transfers ++ [{ left := 4 * q.length, got := [] }] })) ∧
    (∀ b, (s.tap k).endedBy b = [] → exec (.tapAcknowledge k (.dataByte b)) s =
      .next (s.modTap k fun p => { p with transfers := p.goingAfter b })) ∧
    (∀ b x others (words : List Word), (s.tap k).endedBy b = x :: others →
      (s.tap k).disablePending = false → r.orphan = false →
      x.got = words.flatMap (fun w => [w.extractLsb' 24 8, w.extractLsb' 16 8, w.extractLsb' 8 8, w.extractLsb' 0 8]) →
      exec (.tapAcknowledge k (.dataByte b)) s =
        .next ((s.headAnswered k i r .ok (some words)).modTap k fun p => { p.afterDone b with state := .idle }))

/-- A late acknowledge, at a tap in any state but ISSUED, is counted and changes nothing else; a data byte that no
transfer expects is not read. The transfers in progress there take their bytes, and each DONE is late at its last; a tap that
stands IDLE with no other transfer then examines its head in the event of that byte (R74, R79, R191; the model's reading of
that event is log 14, and which of several transfers take a byte is log 12). -/
def Obligations.LateAcknowledgeIsCounted : Prop :=
  ∀ (s : State) (k : Fin 4), s.resetLow = false →
    ((s.tap k).state ≠ .issued → (s.tap k).driving = false → ∀ a,
      exec (.tapAcknowledge k (.strobe a)) s =
        .next (s.modTap k fun p => { p with counters := { p.counters with late := bump p.counters.late } })) ∧
    ((s.tap k).transfers = [] → ∀ b, exec (.tapAcknowledge k (.dataByte b)) s = .next s) ∧
    ((s.tap k).state ≠ .issued → ∀ b,
      let t := s.modTap k fun p => { p with
        transfers := p.goingAfter b
        counters := { p.counters with late := addCount p.counters.late (p.endedBy b).length } }
      ((s.tap k).state ≠ .idle ∨ (s.tap k).endedBy b = [] ∨ (s.tap k).goingAfter b ≠ [] →
        exec (.tapAcknowledge k (.dataByte b)) s = .next t) ∧
      ((s.tap k).state = .idle → (s.tap k).endedBy b ≠ [] → (s.tap k).goingAfter b = [] →
        exec (.tapAcknowledge k (.dataByte b)) s = exec (.examineHead k) t))

/-- The acknowledge timer's expiry, with no disable pending: the head answered TAP_TIMEOUT, every record behind it
TAP_FAULT in queue order, the tap FAULTED, its FAULT flag set and its timeouts counted (R51, R78, R114, R116). What
becomes of a rise of TtACK that waits for TtD is log 27. -/
def Obligations.AckTimeoutFaultsTheTap : Prop :=
  ∀ (s : State) (k : Fin 4) (i : Fin 16) (r : TransRecord), s.Serving k .issued i r → s.RecordsPlaced →
    (s.tap k).ackTimer = some 0 → (s.tap k).disablePending = false → r.orphan = false →
    ∃ t, exec (.ackTimeout k) s = .next t ∧ s.FlagRaised t (4 * k.val + 2) ∧
    (∀ j, t.transAt j =
      if j = i then some (r.answeredWith .tapTimeout none)
      else if j ∈ (s.tap k).queue then (s.transAt j).map (fun x => x.answeredWith .tapFault none) else s.transAt j) ∧
    t.records = { s.records with trans := t.records.trans,
                                 localResponses := s.records.localResponses ++ (s.tap k).queue } ∧
    t = { s with records := t.records, attention := t.attention, taps := s.taps.set k { s.tap k with
      state := .faulted, queue := [], ackTimer := none, presented := none, driving := false, rises := []
      transfers := (s.tap k).transfersAtEnd
      counters := { (s.tap k).counters with
        timeouts := bump (s.tap k).counters.timeouts, late := (s.tap k).lateAtEnd } } }

/-- While a disable is pending the issued record ends by an acknowledge that carries no data, by the last byte of the DONE
of a READ, or by its timer: the head answered by the table of R89, or freed if it is an orphan, every record behind it
TAP_DISABLED in queue order, the tap DISABLED, and the Tap Disable answered OK with the word for pending, or its record freed
if that is an orphan (R64, R65, R78, R79, R89, R189). The byte order is log 13, which of several transfers take a byte is log
12, that one takes it while the part drives TtD is log 32, and what becomes of a rise of TtACK that waits for TtD is log 27. -/
def Obligations.PendingDisableEndsWithTheExchange : Prop :=
  ∀ (s : State) (k : Fin 4) (i : Fin 16) (r : TransRecord) (q : TapRequest) (m : Fin 3) (x : MgmtRecord) (c : Instr)
    (code : Code) (data : Option (List Word)), s.Serving k .issued i r → s.RecordsPlaced → s.MgmtPlaced →
    (s.tap k).disablePending = true → s.InProgress m x .tapDisable →
    (s.tap k).presented = some q → q.kind = r.kind →
    ((s.Listening k ∧ c = .tapAcknowledge k (.strobe 0) ∧ r.kind = .write ∧ code = .ok ∧ data = none) ∨
      (s.Listening k ∧ c = .tapAcknowledge k (.strobe 1) ∧ code = .deviceError ∧ data = none) ∨
      (s.Listening k ∧ c = .tapAcknowledge k (.strobe 3) ∧ code = .deviceError ∧ data = none) ∨
      (s.Listening k ∧ c = .tapAcknowledge k (.strobe 2) ∧ code = .tapDisabled ∧ data = none) ∨
      (r.kind = .read ∧ code = .ok ∧ ∃ b y others words, (s.tap k).endedBy b = y :: others ∧
        c = .tapAcknowledge k (.dataByte b) ∧ data = some words ∧
        y.got = words.flatMap (fun w => [w.extractLsb' 24 8, w.extractLsb' 16 8, w.extractLsb' 8 8,
          w.extractLsb' 0 8])) ∨
      (c = .ackTimeout k ∧ (s.tap k).ackTimer = some 0 ∧ code = .tapTimeout ∧ data = none)) →
    ∃ t p, exec c s = .next t ∧
    (∀ a, c = .tapAcknowledge k (.strobe a) → p = { s.tap k with ackTimer := none, presented := none }) ∧
    (∀ b, c = .tapAcknowledge k (.dataByte b) → p = (s.tap k).afterDone b) ∧
    (c = .ackTimeout k → p = { s.tap k with
      ackTimer := none, presented := none, driving := false, rises := [], transfers := (s.tap k).transfersAtEnd
      counters := { (s.tap k).counters with
        timeouts := bump (s.tap k).counters.timeouts, late := (s.tap k).lateAtEnd } }) ∧
    (∀ j, t.transAt j =
      if j = i then (if r.orphan then none else some (r.answeredWith code data))
      else if j ∈ (s.tap k).queue then (s.transAt j).map (fun y => y.answeredWith .tapDisabled none)
      else s.transAt j) ∧
    t.records = { s.records with
      trans := t.records.trans
      localResponses := s.records.localResponses ++ (if r.orphan then (s.tap k).queue.tail else (s.tap k).queue)
      mgmt := s.records.mgmt.set m (if x.orphan then none
        else some { x with state := .answered, answer := some { code := .ok, result := [1] } })
      mgmtQueue := s.records.mgmtQueue.tail
      mgmtResponses := if x.orphan then s.records.mgmtResponses else s.records.mgmtResponses ++ [m] } ∧
    t = { s with
      records := t.records, attention := t.attention
      windows := if r.orphan then s.windows.setBank r.bank { s.bank r.bank with refs := (s.bank r.bank).refs - 1 }
        else s.windows
      taps := s.taps.set k { p with state := .disabled, disablePending := false, queue := [] } } ∧
    (c ≠ .ackTimeout k → t.attention = s.attention) ∧ (c = .ackTimeout k → s.FlagRaised t (4 * k.val + 2))

/-- An orphan is freed, not answered, by any acknowledge, a DONE for a WRITE and the last byte of the DONE of a READ among
them, and by its timer: its tag and its bank's reference go, no data is kept, and the tap goes on as for any record: to IDLE
by an acknowledge, to FAULTED by the timer, every record behind answered TAP_FAULT. A pending disable is
PendingDisableEndsWithTheExchange's (R64, R76, R78, R79). Which of several transfers take a byte is log 12, that one takes it
while the part drives TtD is log 32, that the record behind is examined in an event of its own is log 14, and what becomes of a
rise of TtACK that waits for TtD is log 27. -/
def Obligations.OrphanIsFreedWithoutAnAnswer : Prop :=
  ∀ (s : State) (k : Fin 4) (i : Fin 16) (r : TransRecord), s.Serving k .issued i r → s.RecordsPlaced →
    (s.tap k).disablePending = false → r.orphan = true →
    let freed (p : Tap) : State := { s with
      records := { s.records with trans := s.records.trans.set i none }
      windows := s.windows.setBank r.bank { s.bank r.bank with refs := (s.bank r.bank).refs - 1 }
      taps := s.taps.set k { p with state := .idle, queue := (s.tap k).queue.tail } }
    (∀ a : BitVec 2, s.Listening k →
      a = 1 ∨ a = 2 ∨ a = 3 ∨ (a = 0 ∧ ∃ q, (s.tap k).presented = some q ∧ q.kind = .write) →
      exec (.tapAcknowledge k (.strobe a)) s = .next (freed { s.tap k with ackTimer := none, presented := none })) ∧
    (∀ b, (s.tap k).endedBy b ≠ [] →
      exec (.tapAcknowledge k (.dataByte b)) s = .next (freed ((s.tap k).afterDone b))) ∧
    ((s.tap k).ackTimer = some 0 → ∃ t, exec (.ackTimeout k) s = .next t ∧ s.FlagRaised t (4 * k.val + 2) ∧
      (∀ j, t.transAt j =
        if j = i then none
        else if j ∈ (s.tap k).queue then (s.transAt j).map (fun x => x.answeredWith .tapFault none)
        else s.transAt j) ∧
      t = { s with
        records := { s.records with
          trans := t.records.trans, localResponses := s.records.localResponses ++ (s.tap k).queue.tail }
        attention := t.attention
        windows := s.windows.setBank r.bank { s.bank r.bank with refs := (s.bank r.bank).refs - 1 }
        taps := s.taps.set k { s.tap k with
          state := .faulted, queue := [], ackTimer := none, presented := none, driving := false, rises := []
          transfers := (s.tap k).transfersAtEnd
          counters := { (s.tap k).counters with
            timeouts := bump (s.tap k).counters.timeouts, late := (s.tap k).lateAtEnd } } })

/-- The retry timer's expiry presents the head again, as a retry and not as an issue (R23, R77). The wait timer's expiry
answers its QUEUED record WAIT_EXPIRED out of its place in the queue and counts it, and does nothing on a HELD tap (R51,
R83, R105). -/
def Obligations.RetryAndWaitTimersAct : Prop :=
  (∀ (s : State) (k : Fin 4) (i : Fin 16) (r : TransRecord) (w : Window) (l : BitVec 24), s.Serving k .retryWait i r →
    (s.tap k).retryTimer = some 0 →
    (s.bank r.bank).entries[r.entry] = some w → w.localBase = some l →
    exec (.retryTimerExpiry k) s = .next ((s.setTrans i (some { r with state := .issued, waitRemaining := none })).modTap k
      fun p => { p with
        state := .issued, ackTimer := some s.mgmt.params.ackLimit[k], retryTimer := none
        presented := some { kind := r.kind, length := r.length, data := r.writeData.getD []
                            localAddress := BitVec.ofNat 24 (l.toNat + (r.address.toNat - w.base.toNat)) }
        driving := true, counters := { p.counters with retries := bump p.counters.retries } })) ∧
  (∀ (s : State) (i : Fin 16) (r : TransRecord), s.resetLow = false → s.transAt i = some r → r.state = .queued →
    r.waitRemaining = some 0 →
    ((s.tap r.tap).state ≠ .held →
      exec (.waitTimerExpiry i) s = .next { s with
        records := { s.records with
          trans := s.records.trans.set i (some (r.answeredWith .waitExpired none))
          localResponses := s.records.localResponses ++ [i] }
        taps := s.taps.set r.tap { s.tap r.tap with
          queue := (s.tap r.tap).queue.erase i
          counters := { (s.tap r.tap).counters with waitExpiries := bump (s.tap r.tap).counters.waitExpiries } } }) ∧
    ((s.tap r.tap).state = .held → exec (.waitTimerExpiry i) s = .next s))

/-- The sample of an attention input in a microsecond is kept; a line found asserted after a sample that found it not
asserted sets its flag, in every tap state, and the first sample after power-up sets none. A line whose sample of the
microsecond has been taken is not sampled again in it (R91, R113, R114, R116; the form of the samples is log 10). -/
def Obligations.AttentionLineChangesSetFlags : Prop :=
  ∀ (s : State) (k : Fin 4), s.resetLow = false →
    ((s.tap k).nowA = false →
      let kept (level : Bool) := s.modTap k fun p => { p with lineA := level, sampledA := true, nowA := true }
      ((s.tap k).sampledA = true → (s.tap k).lineA = false →
        ∃ t, exec (.attentionLineAsserted k .A) s = .next t ∧ s.FlagRaised t (4 * k.val) ∧
          t = { kept true with attention := t.attention }) ∧
      ((s.tap k).sampledA = false ∨ (s.tap k).lineA = true →
        exec (.attentionLineAsserted k .A) s = .next (kept true)) ∧
      exec (.attentionLineReleased k .A) s = .next (kept false)) ∧
    ((s.tap k).nowB = false →
      let kept (level : Bool) := s.modTap k fun p => { p with lineB := level, sampledB := true, nowB := true }
      ((s.tap k).sampledB = true → (s.tap k).lineB = false →
        ∃ t, exec (.attentionLineAsserted k .B) s = .next t ∧ s.FlagRaised t (4 * k.val + 1) ∧
          t = { kept true with attention := t.attention }) ∧
      ((s.tap k).sampledB = false ∨ (s.tap k).lineB = true →
        exec (.attentionLineAsserted k .B) s = .next (kept true)) ∧
      exec (.attentionLineReleased k .B) s = .next (kept false)) ∧
    ((s.tap k).nowA = true →
      exec (.attentionLineAsserted k .A) s = .next s ∧ exec (.attentionLineReleased k .A) s = .next s) ∧
    ((s.tap k).nowB = true →
      exec (.attentionLineAsserted k .B) s = .next s ∧ exec (.attentionLineReleased k .B) s = .next s)

/-! ### The attention unit's timer -/

/-- The re-announce timer's expiry in ANNOUNCED: a new packet for the current sequence, the set-list taken afresh, the
new-list as announced, in place of an older packet; the timer restarts with the interval unless it is 0 (R118, R120). -/
def Obligations.ReAnnouncementRepeatsTheSequence : Prop :=
  ∀ (s : State) (newList : BitVec 17), s.resetLow = false → s.attention.newList = some newList →
    s.attention.timer = some 0 →
    exec .reAnnounce s = .next { s with
      attention := { s.attention with
        packet := some { sequence := s.attention.sequence, newList := newList
                         setList := s.attention.flagsSet &&& s.attention.flagsEnabled }
        timer := if s.mgmt.params.reannounce = 0 then none else some (1000 * s.mgmt.params.reannounce) }
      mgmt := { s.mgmt with reAnnounces := bump s.mgmt.reAnnounces } }

/-! ### Management operations -/

/-- A record that names no operation of the catalogue is answered BAD_OPERATION, whatever its operands, and an operation
with another number of operand words than its own BAD_OPERAND; each changes only its own record (R130, R134). -/
def Obligations.UnknownAndMiscountedOperationsAreRefused : Prop :=
  ∀ (s : State) (i : Fin 3) (r : MgmtRecord), s.CanBegin i r →
    ((∀ op : Op, r.operation ≠ op.code) →
      exec .unknownOperation s = .next (s.mgmtAnswered i r .badOperation [])) ∧
    (∀ op : Op, r.operation = op.code → r.operands.length ≠ op.operandCount →
      exec op.command s = .next (s.mgmtAnswered i r .badOperand []))

/-- Write Entry: with operands in range, an OPEN bank's entry becomes exactly what they give, valid with hit count 0 or
empty, and another bank is refused WRONG_STATE; when valid is 0 only bank and index are examined; a field out of range is
refused BAD_OPERAND (R2, R10, R11, R130, R189). -/
def Obligations.WriteEntryStoresWhatIsGiven : Prop :=
  ∀ (s : State) (i : Fin 3) (r : MgmtRecord) (w1 w2 w3 w4 : Word), s.Ready i r .writeEntry [w1, w2, w3, w4] →
    (∀ (b : BankId) (e : Fin 32) (o : Option Window),
      ((∃ w, o = some w ∧ w.writable ∧ [w1, w2, w3, w4] = entryOperands b e o) ∨
        (o = none ∧ w1.extractLsb' 0 8 = (0#1 ++ BitVec.ofNat 5 e.val ++ BitVec.ofNat 2 b.num : BitVec 8))) →
      exec .writeEntry s = .next
        (if (s.bank b).state = .opened then
          (s.modBank b fun x => { x with entries := x.entries.set e o }).mgmtAnswered i r .ok []
        else s.mgmtAnswered i r .wrongState [])) ∧
    ((2 ≤ (w1.extractLsb' 0 2).toNat ∨
      (w1.getLsbD 7 = true ∧
        (w1.extractLsb' 11 21 ≠ 0 ∨ w3.extractLsb' 17 15 ≠ 0 ∨ w4.extractLsb' 24 8 ≠ 0 ∨
          (w3.extractLsb' 0 5).toNat < 4 ∨ 24 < (w3.extractLsb' 0 5).toNat ∨ w3.extractLsb' 5 2 = 3 ∨
          w3.extractLsb' 7 2 = 0 ∨ (w1.getLsbD 8 = true ∧ 4 ≤ (w3.extractLsb' 9 3).toNat) ∨
          (w1.getLsbD 10 = true ∧
            ((w3.extractLsb' 12 5).toNat = 0 ∨ 16 < (w3.extractLsb' 12 5).toNat))))) →
      exec .writeEntry s = .next (s.mgmtAnswered i r .badOperand []))

/-- Clear Bank, Set Miss Action and Clear Hit Counts. The first two act on an OPEN bank and are refused WRONG_STATE on any
other; Clear Hit Counts acts in any state. An empty entry is `none`, whose hit count is 0 (R12, R13, R21). -/
def Obligations.BankContentsAreClearedAndSet : Prop :=
  ∀ (s : State) (i : Fin 3) (r : MgmtRecord) (b : BankId),
    (s.Ready i r .clearBank [one b.num] → exec .clearBank s = .next
      (if (s.bank b).state = .opened then
        (s.modBank b fun x => { x with entries := .replicate 32 none }).mgmtAnswered i r .ok []
      else s.mgmtAnswered i r .wrongState [])) ∧
    (∀ a : MissAction, s.Ready i r .setMissAction [one b.num, one (match a with | .pass => 1 | .reject => 2)] →
      exec .setMissAction s = .next
        (if (s.bank b).state = .opened then
          (s.modBank b fun x => { x with missAction := a }).mgmtAnswered i r .ok []
        else s.mgmtAnswered i r .wrongState [])) ∧
    (s.Ready i r .clearHitCounts [one b.num] → exec .clearHitCounts s = .next
      ((s.modBank b fun x => { x with entries := x.entries.map fun o => o.map fun w => { w with hits := 0 } }).mgmtAnswered
        i r .ok [])) ∧
    (∀ w a : Word, 2 ≤ w.toNat →
      (s.Ready i r .clearBank [w] → exec .clearBank s = .next (s.mgmtAnswered i r .badOperand [])) ∧
      (s.Ready i r .clearHitCounts [w] → exec .clearHitCounts s = .next (s.mgmtAnswered i r .badOperand [])) ∧
      (s.Ready i r .setMissAction [w, a] → exec .setMissAction s = .next (s.mgmtAnswered i r .badOperand []))) ∧
    (∀ w a : Word, a.toNat ≠ 1 ∧ a.toNat ≠ 2 → s.Ready i r .setMissAction [w, a] →
      exec .setMissAction s = .next (s.mgmtAnswered i r .badOperand []))

/-- Verify Bank is answered at once for a bank that is not OPEN; on an OPEN bank its record stays EXECUTING until its
completion, which finds the lowest-indexed entry that fails a check, answered VERIFY_FAILED with its index and reason, or
makes the bank VERIFIED, answered OK with the number of valid entries; an orphan's record is freed instead. An entry's
reason is the first check it fails, in the order of R15 (R8, R14, R15, R16, R65, R133). -/
def Obligations.VerifyBankChecksAndFreezes : Prop :=
  (∀ w : Window,
    let claim := w.action = .claim
    let missing := claim ∧ (w.tap = none ∨ w.localBase = none)
    let stray := ¬ claim ∧ (w.tap ≠ none ∨ w.localBase ≠ none)
    let misaligned := ¬ (2 ^ w.sizeExponent ∣ w.base.toNat)
    let localMisaligned := claim ∧ ∀ l, w.localBase = some l → ¬ (16 ∣ l.toNat)
    let overrun := claim ∧ ∀ l, w.localBase = some l → 2 ^ 24 < l.toNat + 2 ^ w.sizeExponent
    (w.verify = some .missingField ↔ missing) ∧
    (w.verify = some .strayField ↔ ¬ missing ∧ stray) ∧
    (w.verify = some .baseMisaligned ↔ ¬ missing ∧ ¬ stray ∧ misaligned) ∧
    (w.verify = some .localMisaligned ↔ ¬ missing ∧ ¬ stray ∧ ¬ misaligned ∧ localMisaligned) ∧
    (w.verify = some .localOverrun ↔ ¬ missing ∧ ¬ stray ∧ ¬ misaligned ∧ ¬ localMisaligned ∧ overrun) ∧
    (w.verify = none ↔ ¬ missing ∧ ¬ stray ∧ ¬ misaligned ∧ ¬ localMisaligned ∧ ¬ overrun)) ∧
  ∀ (s : State) (i : Fin 3) (r : MgmtRecord) (b : BankId),
    (s.Ready i r .verifyBank [one b.num] →
      ((s.bank b).state = .opened → exec .verifyBank s = .next (s.mgmtExecuting i r)) ∧
      ((s.bank b).state ≠ .opened → exec .verifyBank s = .next
        (s.mgmtAnswered i r .ok [one ((s.bank b).entries.toList.countP Option.isSome)]))) ∧
    (∀ w : Word, 2 ≤ w.toNat → s.Ready i r .verifyBank [w] →
      exec .verifyBank s = .next (s.mgmtAnswered i r .badOperand [])) ∧
    (s.resetLow = false → s.InProgress i r .verifyBank → r.operands = [one b.num] → (s.bank b).state = .opened →
      (∀ (e : Fin 32) (x : Window) (reason : VerifyReason), (s.bank b).entries[e] = some x →
        x.verify = some reason →
        (∀ (j : Fin 32) (y : Window), j < e → (s.bank b).entries[j] = some y → y.verify = none) →
        (r.orphan = false →
          exec .verifyBankComplete s = .next (s.mgmtAnswered i r .verifyFailed [one e.val, one reason.num])) ∧
        (r.orphan = true → s.records.mgmtQueue.Nodup → exec .verifyBankComplete s = .next { s with
          records := { s.records with
            mgmt := s.records.mgmt.set i none, mgmtQueue := s.records.mgmtQueue.tail } })) ∧
      ((∀ (j : Fin 32) (y : Window), (s.bank b).entries[j] = some y → y.verify = none) →
        (r.orphan = false → exec .verifyBankComplete s = .next
          ((s.modBank b fun x => { x with state := .verified }).mgmtAnswered i r .ok
            [one ((s.bank b).entries.toList.countP Option.isSome)])) ∧
        (r.orphan = true → s.records.mgmtQueue.Nodup → exec .verifyBankComplete s = .next
          { s.modBank b (fun x => { x with state := .verified }) with
            records := { s.records with
              mgmt := s.records.mgmt.set i none, mgmtQueue := s.records.mgmtQueue.tail } })))

/-- Open Bank and Select Bank by the tables of R17 and R18, and Select Bank with target NONE (R17, R18, R19). -/
def Obligations.BanksAreOpenedAndSelected : Prop :=
  ∀ (s : State) (i : Fin 3) (r : MgmtRecord), s.SelectorAgrees →
    (∀ b : BankId, s.Ready i r .openBank [one b.num] →
      ((s.bank b).state = .opened → exec .openBank s = .next (s.mgmtAnswered i r .ok [])) ∧
      ((s.bank b).state = .verified → (s.bank b).refs = 0 → exec .openBank s = .next
        ((s.modBank b fun x => { x with state := .opened }).mgmtAnswered i r .ok [])) ∧
      ((s.bank b).state = .verified → 0 < (s.bank b).refs →
        exec .openBank s = .next (s.mgmtAnswered i r .bankInUse [])) ∧
      ((s.bank b).state = .active → exec .openBank s = .next (s.mgmtAnswered i r .wrongState []))) ∧
    (∀ b : BankId, s.Ready i r .selectBank [one b.num] →
      ((s.bank b).state = .verified → ∃ t, exec .selectBank s = .next t ∧ t.windows.selector = some b ∧
        t.bank b = { s.bank b with state := .active } ∧
        t.bank b.other = (if s.windows.selector = some b.other then { s.bank b.other with state := .verified }
          else s.bank b.other) ∧
        { t with windows := s.windows } = s.mgmtAnswered i r .ok [one (selectorNum s.windows.selector)]) ∧
      ((s.bank b).state = .active → exec .selectBank s = .next (s.mgmtAnswered i r .ok [one b.num])) ∧
      ((s.bank b).state = .opened → exec .selectBank s = .next (s.mgmtAnswered i r .notVerified []))) ∧
    (s.Ready i r .selectBank [2] → ∃ t, exec .selectBank s = .next t ∧ t.windows.selector = none ∧
      (∀ b, t.bank b = if s.windows.selector = some b then { s.bank b with state := .verified } else s.bank b) ∧
      { t with windows := s.windows } = s.mgmtAnswered i r .ok [one (selectorNum s.windows.selector)]) ∧
    (∀ w : Word, (2 ≤ w.toNat → s.Ready i r .openBank [w] →
        exec .openBank s = .next (s.mgmtAnswered i r .badOperand [])) ∧
      (3 ≤ w.toNat → s.Ready i r .selectBank [w] →
        exec .selectBank s = .next (s.mgmtAnswered i r .badOperand [])))

/-- Tap Enable and Tap Recover, by the tables of R85 and R90 (R85, R90). -/
def Obligations.TapsAreEnabledAndRecovered : Prop :=
  ∀ (s : State) (i : Fin 3) (r : MgmtRecord),
    (∀ k : Fin 4, s.Ready i r .tapEnable [one k.val] →
      ((s.tap k).state = .disabled → exec .tapEnable s = .next
        ((s.modTap k fun p => { p with state := .idle }).mgmtAnswered i r .ok [])) ∧
      ((s.tap k).state = .issued → (s.tap k).disablePending = true →
        exec .tapEnable s = .next (s.mgmtAnswered i r .wrongState [])) ∧
      ((s.tap k).state ≠ .disabled → ¬ ((s.tap k).state = .issued ∧ (s.tap k).disablePending = true) →
        exec .tapEnable s = .next (s.mgmtAnswered i r .ok []))) ∧
    (∀ k : Fin 4, s.Ready i r .tapRecover [one k.val] →
      ((s.tap k).state = .faulted → exec .tapRecover s = .next
        ((s.modTap k fun p => { p with state := .idle }).mgmtAnswered i r .ok [])) ∧
      ((s.tap k).state = .idle → exec .tapRecover s = .next (s.mgmtAnswered i r .ok [])) ∧
      ((s.tap k).state ≠ .faulted → (s.tap k).state ≠ .idle →
        exec .tapRecover s = .next (s.mgmtAnswered i r .wrongState []))) ∧
    (∀ w : Word, 4 ≤ w.toNat →
      (s.Ready i r .tapEnable [w] → exec .tapEnable s = .next (s.mgmtAnswered i r .badOperand [])) ∧
      (s.Ready i r .tapRecover [w] → exec .tapRecover s = .next (s.mgmtAnswered i r .badOperand [])))

/-- Tap Disable: on an ISSUED tap it becomes pending, its record EXECUTING; on any other every record of the tap is
answered TAP_DISABLED, head first, the tap goes to DISABLED and the operation is answered OK with the word for taken at
once (R51, R86, R87, R88, R189). -/
def Obligations.TapDisableAnswersTheQueueOrWaits : Prop :=
  ∀ (s : State) (i : Fin 3) (r : MgmtRecord), s.RecordsPlaced → s.ExchangesAgree →
    (∀ k : Fin 4, s.Ready i r .tapDisable [one k.val] →
      ((s.tap k).state = .issued → exec .tapDisable s = .next
        ((s.modTap k fun p => { p with disablePending := true }).mgmtExecuting i r)) ∧
      ((s.tap k).state ≠ .issued → ∃ t, exec .tapDisable s = .next t ∧
        (∀ j, t.transAt j = if j ∈ (s.tap k).queue then
          (s.transAt j).map (fun x => x.answeredWith .tapDisabled none) else s.transAt j) ∧
        t = { s with
          records := { (s.mgmtAnswered i r .ok [0]).records with
            trans := t.records.trans, localResponses := s.records.localResponses ++ (s.tap k).queue }
          taps := s.taps.set k { s.tap k with state := .disabled, queue := [], retryTimer := none } })) ∧
    (∀ w : Word, 4 ≤ w.toNat → s.Ready i r .tapDisable [w] →
      exec .tapDisable s = .next (s.mgmtAnswered i r .badOperand []))

/-- Set Tap Lines sets the named lines to the level and leaves the other; Set Watch writes every field, arms the watch and
clears its hit count; Disarm Watch disarms it and leaves the rest (R92, R102, R103). -/
def Obligations.LinesAndWatchesAreSet : Prop :=
  ∀ (s : State) (i : Fin 3) (r : MgmtRecord),
    (∀ (k : Fin 4) (line0 line1 level : Bool),
      s.Ready i r .setTapLines [one k.val, pack [(1, line0.toNat), (1, line1.toNat)], one level.toNat] →
      let m0 := if line0 then level else (s.tap k).mode0
      let m1 := if line1 then level else (s.tap k).mode1
      exec .setTapLines s = .next ((s.modTap k fun p => { p with mode0 := m0, mode1 := m1 }).mgmtAnswered i r .ok
        [pack [(1, m0.toNat), (1, m1.toNat)]])) ∧
    (∀ w1 w2 w3 : Word, 4 ≤ w1.toNat ∨ 4 ≤ w2.toNat ∨ 2 ≤ w3.toNat → s.Ready i r .setTapLines [w1, w2, w3] →
      exec .setTapLines s = .next (s.mgmtAnswered i r .badOperand [])) ∧
    (∀ (n : Fin 2) (x : Watch), x.armed = true → x.hits = 0 → (x.reads = true ∨ x.writes = true) →
      x.low.toNat ≤ x.high.toNat → s.Ready i r .setWatch (watchOperands n x) →
      exec .setWatch s = .next ((s.modWatch n fun _ => x).mgmtAnswered i r .ok [])) ∧
    (∀ w1 low high : Word, w1.extractLsb' 1 2 = 0 ∨ 4 < (w1.extractLsb' 3 3).toNat ∨ w1.extractLsb' 8 24 ≠ 0 ∨
      high.toNat < low.toNat → s.Ready i r .setWatch [w1, low, high] →
      exec .setWatch s = .next (s.mgmtAnswered i r .badOperand [])) ∧
    (∀ n : Fin 2, s.Ready i r .disarmWatch [one n.val] →
      exec .disarmWatch s = .next ((s.modWatch n fun x => { x with armed := false }).mgmtAnswered i r .ok [])) ∧
    (∀ w : Word, 2 ≤ w.toNat → s.Ready i r .disarmWatch [w] →
      exec .disarmWatch s = .next (s.mgmtAnswered i r .badOperand []))

/-- On a HELD tap, Release Hold issues the held record with its hold mark cleared, Discard Hold answers it DISCARDED and
leaves the tap IDLE, and Read Held Request returns its header or its write data and changes nothing; on any other tap they
are refused WRONG_STATE (R23, R75, R106, R107, R108, R109). -/
def Obligations.HeldTapIsReleasedDiscardedOrRead : Prop :=
  ∀ (s : State) (i : Fin 3) (r : MgmtRecord) (k : Fin 4),
    (∀ (j : Fin 16) (x : TransRecord) (w : Window) (l : BitVec 24), s.Serving k .held j x →
      (s.bank x.bank).entries[x.entry] = some w → w.localBase = some l →
      let address : BitVec 24 := BitVec.ofNat 24 (l.toNat + (x.address.toNat - w.base.toNat))
      (s.Ready i r .releaseHold [one k.val] → exec .releaseHold s = .next
        (((s.setTrans j (some { x with state := .issued, hold := false, waitRemaining := none })).modTap k fun p =>
          { p with
            state := .issued, ackTimer := some s.mgmt.params.ackLimit[k], retryTimer := none
            presented := some { kind := x.kind, localAddress := address, length := x.length
                                data := x.writeData.getD [] }
            driving := true, counters := { p.counters with issues := bump p.counters.issues } }).mgmtAnswered i r .ok
              [one j.val])) ∧
      (s.Ready i r .discardHold [one k.val] → exec .discardHold s = .next
        (((s.headAnswered k j x .discarded none).modTap k fun p => { p with state := .idle }).mgmtAnswered i r .ok
          [one j.val])) ∧
      (∀ start : Word, s.Ready i r .readHeldRequest [one k.val, 0, start] → exec .readHeldRequest s = .next
        (s.mgmtAnswered i r .ok [one j.val, one x.tag.toNat, one x.kind.num, one x.length, x.address,
          one address.toNat])) ∧
      (∀ start : Word, s.Ready i r .readHeldRequest [one k.val, 1, start] → start.toNat < 16 →
        (x.kind = .read → exec .readHeldRequest s = .next (s.mgmtAnswered i r .ok [])) ∧
        (x.kind = .write → start.toNat < x.length → ∀ d, x.writeData = some d → exec .readHeldRequest s = .next
          (s.mgmtAnswered i r .ok ((d.drop start.toNat).take 8))) ∧
        (x.kind = .write → x.length ≤ start.toNat → exec .readHeldRequest s = .next
          (s.mgmtAnswered i r .badOperand [])))) ∧
    ((s.tap k).state ≠ .held →
      (s.Ready i r .releaseHold [one k.val] → exec .releaseHold s = .next (s.mgmtAnswered i r .wrongState [])) ∧
      (s.Ready i r .discardHold [one k.val] → exec .discardHold s = .next (s.mgmtAnswered i r .wrongState [])) ∧
      (∀ start : Word, s.Ready i r .readHeldRequest [one k.val, 0, start] ∨
          (s.Ready i r .readHeldRequest [one k.val, 1, start] ∧ start.toNat < 16) →
        exec .readHeldRequest s = .next (s.mgmtAnswered i r .wrongState []))) ∧
    (∀ w : Word, 4 ≤ w.toNat →
      (s.Ready i r .releaseHold [w] → exec .releaseHold s = .next (s.mgmtAnswered i r .badOperand [])) ∧
      (s.Ready i r .discardHold [w] → exec .discardHold s = .next (s.mgmtAnswered i r .badOperand []))) ∧
    (∀ w1 w2 w3 : Word, 4 ≤ w1.toNat ∨ 2 ≤ w2.toNat ∨ (w2 = 1 ∧ 16 ≤ w3.toNat) →
      s.Ready i r .readHeldRequest [w1, w2, w3] →
      exec .readHeldRequest s = .next (s.mgmtAnswered i r .badOperand []))

/-- Read Attention and Read Counters return what stands; a requested clear acts unless a tap is HELD and clear-while-held
is off, and the last word or field says which (R111, R122, R139, R140, R189). -/
def Obligations.ClearOnReadIsProtected : Prop :=
  ∀ (s : State) (i : Fin 3) (r : MgmtRecord) (clear : Bool),
    let blocked := (∃ k, (s.tap k).state = .held) ∧ s.mgmt.params.clearWhileHeld = false
    ∀ outcome : Nat, (clear = false ∧ outcome = 0) ∨ (clear = true ∧ ¬ blocked ∧ outcome = 1) ∨
      (clear = true ∧ blocked ∧ outcome = 2) →
    (s.Ready i r .readAttention [one clear.toNat] → exec .readAttention s = .next
      ((if outcome = 1 then { s with attention := { s.attention with flagsSet := 0, flagsAnnounced :=
          s.attention.flagsAnnounced &&& ~~~s.attention.flagsSet } } else s).mgmtAnswered i r .ok
        [s.attention.flagsSet.setWidth 32, s.attention.flagsEnabled.setWidth 32,
         s.attention.flagsAnnounced.setWidth 32,
         pack [(1, s.attention.newList.isSome.toNat), (8, s.attention.sequence.toNat), (2, outcome)]])) ∧
    (∀ p : PortId, s.Ready i r .readCounters [one (match p with | .upper => 0 | .lower => 1), one clear.toNat] →
      let c := (s.port p).counters
      exec .readCounters s = .next
        ((if outcome = 1 then s.setPort p { s.port p with counters := ⟨0, 0, 0, 0, 0, 0, 0⟩ } else s).mgmtAnswered i r
          .ok [one c.received.toNat, one c.checkFailures.toNat, one c.malformed.toNat, one c.misdirected.toNat,
               one c.overruns.toNat, one c.excessCredits.toNat, one c.retrains.toNat, one outcome])) ∧
    (∀ k : Fin 4, s.Ready i r .readCounters [one (k.val + 2), one clear.toNat] →
      let c := (s.tap k).counters
      exec .readCounters s = .next
        ((if outcome = 1 then s.modTap k (fun p => { p with counters := ⟨0, 0, 0, 0, 0⟩ }) else s).mgmtAnswered i r .ok
          [one c.issues.toNat, one c.retries.toNat, one c.timeouts.toNat, one c.late.toNat, one c.waitExpiries.toNat,
           one outcome])) ∧
    (s.Ready i r .readCounters [6, one clear.toNat] → exec .readCounters s = .next
      ((if outcome = 1 then { s with mgmt := { s.mgmt with refusals := 0, depthOverflows := 0, reAnnounces := 0 } }
        else s).mgmtAnswered i r .ok
        [one s.mgmt.refusals.toNat, one s.mgmt.depthOverflows.toNat, one s.mgmt.reAnnounces.toNat, one outcome])) ∧
    (∀ w1 w2 : Word, 7 ≤ w1.toNat ∨ 2 ≤ w2.toNat → s.Ready i r .readCounters [w1, w2] →
      exec .readCounters s = .next (s.mgmtAnswered i r .badOperand [])) ∧
    (∀ w : Word, 2 ≤ w.toNat → s.Ready i r .readAttention [w] →
      exec .readAttention s = .next (s.mgmtAnswered i r .badOperand []))

/-- Clear Attention makes the named flags clear and unannounced; Set Attention Enables changes the named enables and
announces in the same event what the announcer may; Acknowledge Attention of the outstanding sequence returns the
announcer to QUIET, advances the sequence and announces again if a flag is then due, and any other is refused
STALE_SEQUENCE (R116, R117, R119, R121, R123). -/
def Obligations.AttentionOperationsAct : Prop :=
  ∀ (s : State) (i : Fin 3) (r : MgmtRecord),
    (∀ m : BitVec 17, s.Ready i r .clearAttention [m.setWidth 32] → exec .clearAttention s = .next
      (({ s with attention := { s.attention with
          flagsSet := s.attention.flagsSet &&& ~~~m, flagsAnnounced := s.attention.flagsAnnounced &&& ~~~m }
        } : State).mgmtAnswered i r .ok [])) ∧
    (∀ (m : BitVec 17) (on : Bool), s.Ready i r .setAttentionEnables [m.setWidth 32, one on.toNat] →
      let enabled := if on then s.attention.flagsEnabled ||| m else s.attention.flagsEnabled &&& ~~~m
      let fresh := s.attention.flagsSet &&& enabled &&& ~~~s.attention.flagsAnnounced
      exec .setAttentionEnables s = .next
        (({ s with attention :=
            if s.attention.newList = none ∧ s.upper.state = .up ∧ fresh ≠ 0 then
              { s.attention with
                flagsEnabled := enabled, flagsAnnounced := s.attention.flagsAnnounced ||| fresh
                newList := some fresh, timer := reannounceTimer s.mgmt.params.reannounce
                packet := some { sequence := s.attention.sequence, newList := fresh
                                 setList := s.attention.flagsSet &&& enabled } }
            else { s.attention with flagsEnabled := enabled } } : State).mgmtAnswered i r .ok
          [enabled.setWidth 32])) ∧
    (∀ w : Word, s.Ready i r .acknowledgeAttention [w] → w.toNat < 256 →
      let fresh := s.attention.flagsSet &&& s.attention.flagsEnabled &&& ~~~s.attention.flagsAnnounced
      let again := s.upper.state = .up ∧ fresh ≠ 0
      (s.attention.newList ≠ none → w.toNat = s.attention.sequence.toNat →
        exec .acknowledgeAttention s = .next
          (({ s with attention :=
              if again then
                { s.attention with
                  sequence := s.attention.sequence + 1, flagsAnnounced := s.attention.flagsAnnounced ||| fresh
                  newList := some fresh, timer := reannounceTimer s.mgmt.params.reannounce
                  packet := some { sequence := s.attention.sequence + 1, newList := fresh
                                   setList := s.attention.flagsSet &&& s.attention.flagsEnabled } }
              else { s.attention with
                sequence := s.attention.sequence + 1, newList := none, timer := none, packet := none } } :
            State).mgmtAnswered i r .ok
            [one (s.attention.sequence + 1).toNat, one (if again then 1 else 0)])) ∧
      (s.attention.newList = none ∨ w.toNat ≠ s.attention.sequence.toNat →
        exec .acknowledgeAttention s = .next (s.mgmtAnswered i r .staleSequence []))) ∧
    (∀ w a : Word, (2 ^ 17 ≤ w.toNat → s.Ready i r .clearAttention [w] →
        exec .clearAttention s = .next (s.mgmtAnswered i r .badOperand [])) ∧
      (2 ^ 17 ≤ w.toNat ∨ 2 ≤ a.toNat → s.Ready i r .setAttentionEnables [w, a] →
        exec .setAttentionEnables s = .next (s.mgmtAnswered i r .badOperand [])) ∧
      (256 ≤ w.toNat → s.Ready i r .acknowledgeAttention [w] →
        exec .acknowledgeAttention s = .next (s.mgmtAnswered i r .badOperand [])))

/-- Set Parameter gives the parameter its value and answers with the old one; out of range it is refused. Lower port
enable acts on the lower port in the same event: on starts its training, off takes it DOWN, from UP with a link loss
(R142, R143, R145, R171, R175). What DOWN leaves of the training marks is log 20 and of the check-failure run log 30, the
model's. Read Parameter is ReadsChangeNothing's. -/
def Obligations.SetParameterActs : Prop :=
  ∀ (s : State) (i : Fin 3) (r : MgmtRecord) (v : Word),
    (∀ k : Fin 4, s.Ready i r .setParameter [one k.val, v] → 1 ≤ v.toNat → v.toNat ≤ 65535 →
      exec .setParameter s = .next
        (({ s with mgmt := { s.mgmt with params := { s.mgmt.params with
            ackLimit := s.mgmt.params.ackLimit.set k v.toNat } } } : State).mgmtAnswered i r .ok
          [one s.mgmt.params.ackLimit[k]])) ∧
    (s.Ready i r .setParameter [4, v] → v.toNat ≤ 15 → exec .setParameter s = .next
      (({ s with mgmt := { s.mgmt with params := { s.mgmt.params with retryLimit := v.toNat } } } : State).mgmtAnswered
        i r .ok [one s.mgmt.params.retryLimit])) ∧
    (s.Ready i r .setParameter [5, v] → 1 ≤ v.toNat → v.toNat ≤ 4095 → exec .setParameter s = .next
      (({ s with mgmt := { s.mgmt with params := { s.mgmt.params with retryDelay := v.toNat } } } : State).mgmtAnswered
        i r .ok [one s.mgmt.params.retryDelay])) ∧
    (s.Ready i r .setParameter [6, v] → v.toNat ≤ 65535 → exec .setParameter s = .next
      (({ s with mgmt := { s.mgmt with params := { s.mgmt.params with waitLimit := v.toNat } } } : State).mgmtAnswered
        i r .ok [one s.mgmt.params.waitLimit])) ∧
    (s.Ready i r .setParameter [7, v] → v.toNat ≤ 255 → exec .setParameter s = .next
      (({ s with mgmt := { s.mgmt with params := { s.mgmt.params with reannounce := v.toNat } } } : State).mgmtAnswered
        i r .ok [one s.mgmt.params.reannounce])) ∧
    (∀ on : Bool, s.Ready i r .setParameter [8, one on.toNat] → exec .setParameter s = .next
      (({ s with mgmt := { s.mgmt with params := { s.mgmt.params with clearWhileHeld := on } } } : State).mgmtAnswered
        i r .ok [one s.mgmt.params.clearWhileHeld.toNat])) ∧
    (∀ on : Bool, s.Ready i r .setParameter [9, one on.toNat] →
      let before := s.mgmt.params.lowerEnable
      (before = on → exec .setParameter s = .next (s.mgmtAnswered i r .ok [one on.toNat])) ∧
      (before = false → on = true → exec .setParameter s = .next (({ s with
        lower := { s.lower with
          state := .training, credit := 0, owed := 0, run := 0, reachedThree := false, readySeen := false,
          readySent := false, helloTimer := some 10, trainTimer := some 64, silence := none, failRun := 0,
          tx := .hello false }
        mgmt := { s.mgmt with params := { s.mgmt.params with lowerEnable := true } } } : State).mgmtAnswered
          i r .ok [0])) ∧
      (before = true → on = false → s.lower.state ≠ .up → exec .setParameter s = .next (({ s with
        lower := { s.lower with
          state := .down, credit := 0, owed := 0, helloTimer := none, trainTimer := none, silence := none,
          failRun := 0, tx := .silent }
        mgmt := { s.mgmt with params := { s.mgmt.params with lowerEnable := false } } } : State).mgmtAnswered
          i r .ok [1])) ∧
      (before = true → on = false → s.lower.state = .up → ∃ t u,
        exec (.silenceTimeout .lower) { s with lower := { s.lower with silence := some 0 } } = .next u ∧
        exec .setParameter s = .next t ∧
        t = ({ u with
          lower := { s.lower with
            state := .down, credit := 0, owed := 0, helloTimer := none, trainTimer := none, silence := none,
            failRun := 0, tx := .silent, counters := u.lower.counters }
          mgmt := { u.mgmt with params := { s.mgmt.params with lowerEnable := false } } } : State).mgmtAnswered
          i r .ok [1])) ∧
    (∀ w : Word, 10 ≤ w.toNat ∨ (w.toNat < 4 ∧ (v.toNat < 1 ∨ 65535 < v.toNat)) ∨ (w.toNat = 4 ∧ 15 < v.toNat) ∨
      (w.toNat = 5 ∧ (v.toNat < 1 ∨ 4095 < v.toNat)) ∨ (w.toNat = 6 ∧ 65535 < v.toNat) ∨
      (w.toNat = 7 ∧ 255 < v.toNat) ∨ (8 ≤ w.toNat ∧ 2 ≤ v.toNat) → s.Ready i r .setParameter [w, v] →
      exec .setParameter s = .next (s.mgmtAnswered i r .badOperand []))

/-- A valid Branch Reset is answered OK as it is begun; the reset becomes pending and the classifier is paused (R66,
R146). -/
def Obligations.BranchResetAnswersFirst : Prop :=
  ∀ (s : State) (i : Fin 3) (r : MgmtRecord), s.Ready i r .branchReset [] →
    exec .branchReset s = .next
      (({ s with mgmt := { s.mgmt with resetPending := true }
                 classifier := { s.classifier with paused := true } } : State).mgmtAnswered i r .ok [])

/-- The reading operations answer OK with what stands, in the words of R189, and change nothing but their own record:
Read Identity, Read Branch Status and Read Record (which report their own record as EXECUTING), Read Entry, Read Watch, Read
Tap Status and Read Parameter; an operand out of range is refused (R20, R94, R104, R135, R136, R137, R138, R144). The
width of "records held" is the free value of log 16. The model's readings are the packing of word 7 of Read Branch Status
and the five words of an empty Read Entry (log 25), the paused mark of Read Record (log 22), and the local address of a
record whose entry gives none (log 17). -/
def Obligations.ReadsChangeNothing : Prop :=
  ∀ (s : State) (i : Fin 3) (r : MgmtRecord) (n : Word),
    (s.Ready i r .readIdentity [] → exec .readIdentity s = .next
      (s.mgmtAnswered i r .ok [0x0B7, 0x416, 1, 4, 16, 32])) ∧
    (s.Ready i r .readBranchStatus [] →
      let records (f : TransRecord → Bool) : Nat := s.records.trans.toList.countP fun o => o.any f
      let mgmt (j : Fin 3) : Nat := if j = i then 2 else
        match s.mgmtAt j with
        | none => 0
        | some x => match x.state with | .waiting => 1 | .executing => 2 | .answered => 3
      exec .readBranchStatus s = .next (s.mgmtAnswered i r .ok
        [pack [(2, match s.windows.selector with | some .A => 0 | some .B => 1 | none => 2),
               (2, (s.bank .A).state.num), (2, (s.bank .B).state.num)],
         pack [(5, (s.bank .A).refs), (5, (s.bank .B).refs)],
         pack [(2, match s.classifier.stall with | .none => 0 | .onLower _ => 1 | .onRefusal _ => 2),
               (1, s.classifier.paused.toNat), (4, s.classifier.refusals.length)],
         pack [(2, match s.lower.state with | .down => 0 | .training => 1 | .up => 2),
               (1, s.mgmt.params.lowerEnable.toNat), (4, s.lowerTx.length), (4, s.lowerTx.countP (·.drain))],
         pack [(5, records (·.state == .queued)), (5, records (·.state == .issued)),
               (5, records (·.state == .retryWait))],
         pack [(5, records (·.state == .held)), (5, records (·.state == .answered)), (5, records (·.orphan))],
         pack [(2, mgmt 0), (2, mgmt 1), (2, mgmt 2),
               (3, (s.tap 0).state.num), (1, (s.tap 0).disablePending.toNat),
               (3, (s.tap 1).state.num), (1, (s.tap 1).disablePending.toNat),
               (3, (s.tap 2).state.num), (1, (s.tap 2).disablePending.toNat),
               (3, (s.tap 3).state.num), (1, (s.tap 3).disablePending.toNat)],
         pack [(1, s.attention.newList.isSome.toNat), (8, s.attention.sequence.toNat)]])) ∧
    (∀ j : Fin 16, s.Ready i r .readRecord [one j.val] →
      (s.transAt j = none → exec .readRecord s = .next (s.mgmtAnswered i r .ok [0])) ∧
      (∀ x, s.transAt j = some x → ∃ address : BitVec 24,
        (∀ w l, (s.bank x.bank).entries[x.entry] = some w → w.localBase = some l →
          address = BitVec.ofNat 24 (l.toNat + (x.address.toNat - w.base.toNat))) ∧
        exec .readRecord s = .next (s.mgmtAnswered i r .ok
          [pack [(3, match x.state with | .queued => 1 | .issued => 2 | .retryWait => 3 | .held => 4 | .answered => 5),
                 (6, x.tag.toNat), (1, x.kind.num), (5, x.length), (3, x.tap.val), (2, x.bank.num), (5, x.entry.val)],
           x.address, one address.toNat,
           pack [(4, x.retryCount), (1, x.hold.toNat), (1, x.orphan.toNat), (1, x.readData.isSome.toNat),
                 (1, x.writeData.isSome.toNat)],
           pack (match x.code with | some code => [(1, 1), (6, code.value.toNat)] | none => [(1, 0), (6, 0)]),
           pack (match x.waitRemaining with
             | some n => [(1, 1), (16, n), (1, if (s.tap x.tap).state = .held then 1 else 0)]
             | none => [(1, 0), (16, 0), (1, 0)]),
           0, 0]))) ∧
    (∀ j : Fin 3, s.Ready i r .readRecord [one (16 + j.val)] →
      (j ≠ i → s.mgmtAt j = none → exec .readRecord s = .next (s.mgmtAnswered i r .ok [0])) ∧
      (∀ x, (j = i ∧ x = { r with state := .executing }) ∨ (j ≠ i ∧ s.mgmtAt j = some x) →
        exec .readRecord s = .next (s.mgmtAnswered i r .ok
          [pack [(2, match x.state with | .waiting => 1 | .executing => 2 | .answered => 3), (6, x.tag.toNat),
                 (8, x.operation.toNat), (4, x.operands.length)],
           one x.orphan.toNat,
           pack (match x.answer with | some a => [(1, 1), (6, a.code.value.toNat)] | none => [(1, 0), (6, 0)]),
           pack (match x.answer with | some a => [(1, 1), (4, a.result.length)] | none => [(1, 0), (4, 0)])]))) ∧
    (∀ (b : BankId) (e : Fin 32), s.Ready i r .readEntry [one b.num, one e.val] → exec .readEntry s = .next
      (s.mgmtAnswered i r .ok (match (s.bank b).entries[e] with
        | none => [0, 0, 0, 0, 0]
        | some w =>
          [pack [(1, 1), (1, w.tap.isSome.toNat), (1, w.localBase.isSome.toNat), (1, w.maxLength.isSome.toNat)],
           w.base,
           pack [(5, w.sizeExponent), (2, w.action.num), (1, w.permitsRead.toNat), (1, w.permitsWrite.toNat),
                 (3, (w.tap.map Fin.val).getD 0), (5, w.maxLength.getD 0)],
           one ((w.localBase.map BitVec.toNat).getD 0), one w.hits.toNat]))) ∧
    (∀ k : Fin 2, s.Ready i r .readWatch [one k.val] → exec .readWatch s = .next
      (s.mgmtAnswered i r .ok
        [pack [(1, (s.watch k).armed.toNat), (1, (s.watch k).reads.toNat), (1, (s.watch k).writes.toNat),
               (3, ((s.watch k).tap.map Fin.val).getD 4), (1, (s.watch k).hold.toNat), (1, (s.watch k).oneShot.toNat)],
         (s.watch k).low, (s.watch k).high, one (s.watch k).hits.toNat])) ∧
    (∀ k : Fin 4, s.Ready i r .readTapStatus [one k.val] → ∃ width, (width = 4 ∨ width = 5) ∧
      exec .readTapStatus s = .next (s.mgmtAnswered i r .ok
        [pack ([(3, (s.tap k).state.num), (1, (s.tap k).disablePending.toNat), (width, (s.tap k).queue.length)] ++
            (match (s.tap k).queue.head? with
              | some j => [(1, 1), (5, j.val)]
              | none => [(1, 0), (5, 0)])),
         one s.mgmt.params.ackLimit[k],
         pack [(1, (s.tap k).mode0.toNat), (1, (s.tap k).mode1.toNat), (1, (s.tap k).lineA.toNat),
               (1, (s.tap k).lineB.toNat)]])) ∧
    (∀ v, (n.toNat = 4 ∧ v = s.mgmt.params.retryLimit) ∨ (n.toNat = 5 ∧ v = s.mgmt.params.retryDelay) ∨
        (n.toNat = 6 ∧ v = s.mgmt.params.waitLimit) ∨ (n.toNat = 7 ∧ v = s.mgmt.params.reannounce) ∨
        (n.toNat = 8 ∧ v = s.mgmt.params.clearWhileHeld.toNat) ∨ (n.toNat = 9 ∧ v = s.mgmt.params.lowerEnable.toNat) ∨
        (∃ k : Fin 4, n.toNat = k.val ∧ v = s.mgmt.params.ackLimit[k]) →
      s.Ready i r .readParameter [n] → exec .readParameter s = .next (s.mgmtAnswered i r .ok [one v])) ∧
    (∀ op ws, (op = .readRecord ∧ ws = [n] ∧ 19 ≤ n.toNat) ∨ (op = .readEntry ∧ (∃ b, ws = [b, n]) ∧ 32 ≤ n.toNat) ∨
        (op = .readEntry ∧ (∃ e, ws = [n, e]) ∧ 2 ≤ n.toNat) ∨ (op = .readWatch ∧ ws = [n] ∧ 2 ≤ n.toNat) ∨
        (op = .readTapStatus ∧ ws = [n] ∧ 4 ≤ n.toNat) ∨ (op = .readParameter ∧ ws = [n] ∧ 10 ≤ n.toNat) →
      s.Ready i r op ws → exec op.command s = .next (s.mgmtAnswered i r .badOperand []))

/-! ### Invariants -/

/-- The invariants below hold at reset (the values of log 9 lie in range). -/
def Obligations.InvariantsHoldAtReset : Prop :=
  State.reset.TablesAgree ∧ State.reset.TagsDiffer ∧ State.reset.AttentionAgrees ∧ State.reset.QueuesAgree ∧
  State.reset.PortsAgree ∧ State.reset.RecordsPlaced ∧ State.reset.ExchangesAgree ∧ State.reset.MgmtPlaced

/-- Every step keeps selector and bank states in agreement, each reference count the number of records that name the
bank, every bank that is not OPEN passed by the checks, and every record inside a window that translates it (R1, R8, R9,
R23). -/
def Obligations.StepKeepsTablesAgree : Prop :=
  ∀ s t : State, s.TablesAgree → step s = .next t → t.TablesAgree

/-- Every step keeps the tags of allocated records different (R56). -/
def Obligations.StepKeepsTagsDiffer : Prop :=
  ∀ s t : State, s.TagsDiffer → step s = .next t → t.TagsDiffer

/-- Every step keeps every announced flag set, and a QUIET announcer without timer and packet (R113, R115). -/
def Obligations.StepKeepsAttentionAgrees : Prop :=
  ∀ s t : State, s.AttentionAgrees → step s = .next t → t.AttentionAgrees

/-- Every step of a part whose ports agree keeps the queues within their places, drain packets in front and only under a
full refusal queue, and a stall with its cause (R39, R40, R41, R43, R44, R155, R169, R179). -/
def Obligations.StepKeepsQueuesAgree : Prop :=
  ∀ s t : State, s.QueuesAgree → s.PortsAgree → step s = .next t → t.QueuesAgree

/-- Every step keeps the ports' states, credits and enable in agreement (R169, R171, R175, R178). -/
def Obligations.StepKeepsPortsAgree : Prop :=
  ∀ s t : State, s.PortsAgree → step s = .next t → t.PortsAgree

/-- Every step keeps each record in the one place its state names, each tap in the state of its head record, its timers
running and its request presented as its state says (R50, R57, R69, R70, R71, R72). -/
def Obligations.StepKeepsRecordsPlaced : Prop :=
  ∀ s t : State, s.RecordsPlaced → s.ExchangesAgree → step s = .next t → t.RecordsPlaced ∧ t.ExchangesAgree

/-- Every step keeps each management record in the one queue its state names, an EXECUTING one at the head (R53, R54, R55,
R65). -/
def Obligations.StepKeepsMgmtPlaced : Prop :=
  ∀ s t : State, s.MgmtPlaced → step s = .next t → t.MgmtPlaced

/-- Every command but POWER_UP_RESET leaves the contents of a bank that is not OPEN as they were, but for hit counts, and
changes a bank's state only from OPEN to VERIFIED, VERIFIED to OPEN, VERIFIED to ACTIVE, or ACTIVE to VERIFIED (R8,
R11, R12, R13, R23). -/
def Obligations.BanksAreFrozenUnlessOpen : Prop :=
  ∀ (c : Instr) (s t : State) (b : BankId), c ≠ .powerUpReset → exec c s = .next t →
    ((s.bank b).state ≠ .opened → (t.bank b).contents = (s.bank b).contents) ∧
    ((s.bank b).state = .opened → (t.bank b).state = .opened ∨ (t.bank b).state = .verified) ∧
    ((s.bank b).state = .active → (t.bank b).state = .active ∨ (t.bank b).state = .verified)
end

