-- ==== Sys2Proof/Laws/Checks.lean ====
section
/-! SUPPORT. For each invariant a check that Lean evaluates on a concrete state, and the proof that a state that passes it has the invariant. -/

namespace Sys2Proof.Machine

/-! ### Optional values -/

theorem some_of_any {α : Type} {o : Option α} {p : α → Bool} (h : o.any p = true) :
    ∃ x, o = some x ∧ p x = true := by
  cases o with
  | none => simp at h
  | some x => exact ⟨x, rfl, by simpa using h⟩

theorem any_of_some {α : Type} {o : Option α} {p : α → Bool} {x : α} (h : o = some x) (hp : p x = true) :
    o.any p = true := by
  simp [h, hp]

theorem some_of_all {α : Type} {o : Option α} {p : α → Bool} {x : α} (h : o.all p = true) (hx : o = some x) :
    p x = true := by
  simpa [hx] using h

/-! ### Tags and reference counts -/

/-- Checks that allocated records hold different tags (R56). -/
def State.checksTags (s : State) : Bool :=
  decide ((∀ i j : Fin 16, (s.transAt i).all fun r => (s.transAt j).all fun q => decide (r.tag = q.tag → i = j))
    ∧ (∀ i j : Fin 3, (s.mgmtAt i).all fun r => (s.mgmtAt j).all fun q => decide (r.tag = q.tag → i = j))
    ∧ (∀ (i : Fin 16) (j : Fin 3), (s.transAt i).all fun r => (s.mgmtAt j).all fun q => decide (r.tag ≠ q.tag)))

theorem State.tagsDiffer_of_checks {s : State} (h : s.checksTags = true) : s.TagsDiffer := by
  obtain ⟨h1, h2, h3⟩ := of_decide_eq_true h
  refine ⟨fun i j r q hr hq => ?_, fun i j r q hr hq => ?_, fun i j r q hr hq => ?_⟩
  · have hi := some_of_all (h1 i j) hr
    have hj := some_of_all hi hq
    exact of_decide_eq_true hj
  · have hi := some_of_all (h2 i j) hr
    have hj := some_of_all hi hq
    exact of_decide_eq_true hj
  · have hi := some_of_all (h3 i j) hr
    have hj := some_of_all hi hq
    exact of_decide_eq_true hj

/-- Checks that selector, bank states and reference counts agree (R1, R8, R9). -/
def State.checksTables (s : State) : Bool :=
  [BankId.A, .B].all fun b =>
    (decide ((s.bank b).state = .active) == decide (s.windows.selector = some b))
      && (s.bank b).refs == (s.records.count fun r => r.bank == b)
      && (decide ((s.bank b).state = .opened) || (s.bank b).firstFailing.isNone)

theorem State.checksTables_bank {s : State} (h : s.checksTables = true) (b : BankId) :
    ((s.bank b).state = .active ↔ s.windows.selector = some b)
      ∧ (s.bank b).refs = (s.records.count fun r => r.bank == b)
      ∧ ((s.bank b).state ≠ .opened → (s.bank b).firstFailing = none) := by
  simp only [State.checksTables, List.all_cons, List.all_nil, Bool.and_true, Bool.and_eq_true, beq_iff_eq,
    decide_eq_decide, Bool.or_eq_true, decide_eq_true_eq, Option.isNone_iff_eq_none] at h
  obtain ⟨⟨⟨h1, h2⟩, h3⟩, ⟨h4, h5⟩, h6⟩ := h
  cases b
  · exact ⟨h1, h2, fun h => h3.resolve_left h⟩
  · exact ⟨h4, h5, fun h => h6.resolve_left h⟩

/-- Checks that verified banks pass the checks, and records lie in windows that translate them (R15, R23). -/
def State.checksTranslation (s : State) : Bool :=
  decide (∀ i : Fin 16, (s.transAt i).all fun r => decide ((s.bank r.bank).state ≠ .opened)
    && (s.bank r.bank).entries[r.entry].any fun w => w.localBase.isSome && decide (w.tap = some r.tap)
      && decide (w.base.toNat ≤ r.address.toNat ∧ r.address.toNat + r.length ≤ w.base.toNat + 2 ^ w.sizeExponent))

theorem State.tablesAgree_of_checks {s : State} (h : s.checksTables = true) (ht : s.checksTranslation = true) :
    s.TablesAgree := by
  refine ⟨fun b => (s.checksTables_bank h b).1, fun b => (s.checksTables_bank h b).2.1,
    fun b => (s.checksTables_bank h b).2.2, fun i r hr => ?_⟩
  have hi := some_of_all (of_decide_eq_true ht i) hr
  simp only [Bool.and_eq_true, decide_eq_true_eq] at hi
  obtain ⟨ho, hw⟩ := hi
  obtain ⟨w, hw, hp⟩ := some_of_any hw
  simp only [Bool.and_eq_true, decide_eq_true_eq] at hp
  obtain ⟨⟨hl, hk⟩, hb, hs⟩ := hp
  obtain ⟨l, hl⟩ := Option.isSome_iff_exists.1 hl
  exact ⟨ho, w, l, hw, hl, hk, hb, hs⟩

/-! ### Queues and ports -/

/-- Checks that queues, drain packets and the stall agree (R39 to R44). -/
def State.checksQueues (s : State) : Bool :=
  decide (s.upperRx.length ≤ 8 ∧ s.lowerRx.length ≤ 8 ∧ s.lowerTx.length ≤ 8 ∧ s.classifier.refusals.length ≤ 8
    ∧ (s.lowerTx.Pairwise fun a b => b.drain = true → a.drain = true)
    ∧ ((∃ q ∈ s.lowerTx, q.drain = true) → s.classifier.refusals.length = 8)
    ∧ (s.classifier.stall ≠ .none → s.upperRx ≠ []) ∧ (∀ u ∈ s.lowerRx, u.depthFull = false))
    && (match s.classifier.stall with
        | .none => true
        | .onLower _ => decide (s.lowerTx.length = 8 ∧ s.lower.state = .up)
        | .onRefusal _ => decide (s.classifier.refusals.length = 8))

theorem State.queuesAgree_of_checks {s : State} (h : s.checksQueues = true) : s.QueuesAgree := by
  simp only [State.checksQueues, Bool.and_eq_true, decide_eq_true_eq] at h
  obtain ⟨⟨h1, h2, h3, h4, h5, h6, h7, h8⟩, h9⟩ := h
  refine ⟨h1, h2, h3, h4, h5, h6, fun p hp => ?_, fun r hr => ?_, h7, h8⟩
  · rw [hp] at h9
    exact of_decide_eq_true h9
  · rw [hr] at h9
    exact of_decide_eq_true h9

/-- Checks that port states, credits and the enable agree (R169, R171). -/
def State.checksPorts (s : State) : Bool :=
  decide (s.upper.state ≠ .down) && decide (s.lower.state = .down ↔ s.mgmt.params.lowerEnable = false)
    && [PortId.upper, .lower].all fun p =>
      decide ((s.port p).credit ≤ (s.port p).capacity ∧ 1 ≤ (s.port p).capacity ∧ (s.port p).capacity ≤ 15
        ∧ (s.port p).owed ≤ 8 ∧ ((s.port p).state ≠ .up →
          (s.port p).credit = 0 ∧ (s.port p).owed = 0 ∧ (s.port p).silence = none ∧ s.rxLength p = 0))

theorem State.portsAgree_of_checks {s : State} (h : s.checksPorts = true) : s.PortsAgree := by
  simp only [State.checksPorts, Bool.and_eq_true, List.all_cons, List.all_nil, Bool.and_true, decide_eq_true_eq] at h
  obtain ⟨⟨h1, h2⟩, h3, h4⟩ := h
  refine ⟨h1, h2, fun p => ?_⟩
  cases p
  · exact h3
  · exact h4

/-! ### Records and taps -/

/-- Checks that a tap and its head record agree (R69 to R72). -/
def State.checksTap (s : State) (t : Fin 4) : Bool :=
  decide ((s.tap t).queue.Nodup ∧ (s.tap t).queue.length ≤ 6 ∧ ((s.tap t).disablePending = true → (s.tap t).state = .issued)
    ∧ ∀ i ∈ (s.tap t).queue.tail, (s.transAt i).all fun r => r.state == .queued)
    && (match (s.tap t).state with
        | .disabled | .faulted => decide ((s.tap t).queue = [])
        | .idle => (s.tap t).queue.head?.all fun i => (s.transAt i).all fun r => r.state == .queued
        | .issued => (s.tap t).queue.head?.any fun i => (s.transAt i).any fun r => r.state == .issued
            && (s.resetLow || (s.tap t).presented.any fun q =>
              decide (q.kind = r.kind ∧ q.length = r.length ∧ q.data = r.writeData.getD []))
        | .retryWait => (s.tap t).queue.head?.any fun i => (s.transAt i).any fun r => r.state == .retryWait
        | .held => (s.tap t).queue.head?.any fun i => (s.transAt i).any fun r => r.state == .held)

/-- Checks that each record stands in the one place its state names (R50, R57, R70). -/
def State.checksRecords (s : State) : Bool :=
  decide ((∀ (t : Fin 4) (i : Fin 16),
        i ∈ (s.tap t).queue ↔ ((s.transAt i).any fun r => r.tap == t && r.state != .answered) = true)
      ∧ (∀ i : Fin 16, i ∈ s.records.localResponses ↔ ((s.transAt i).any fun r => r.state == .answered) = true)
      ∧ s.records.localResponses.Nodup
      ∧ (∀ i : Fin 16, (s.transAt i).all fun r => !r.orphan || r.state == .issued)
      ∧ ∀ t : Fin 4, s.checksTap t)

theorem State.head_of_any {s : State} {t : Fin 4} {p : TransRecord → Bool}
    (h : ((s.tap t).queue.head?.any fun i => (s.transAt i).any p) = true) :
    ∃ i r, (s.tap t).queue.head? = some i ∧ s.transAt i = some r ∧ p r = true := by
  obtain ⟨i, hi, hr⟩ := some_of_any h
  obtain ⟨r, hr, hp⟩ := some_of_any hr
  exact ⟨i, r, hi, hr, hp⟩

theorem State.recordsPlaced_of_checks {s : State} (h : s.checksRecords = true) : s.RecordsPlaced := by
  obtain ⟨h1, h2, h3, h4, h5⟩ := of_decide_eq_true h
  refine ⟨fun t i => ?_, fun i => ?_, h3, fun i r hr ho => ?_, fun t => ?_⟩
  · rw [h1 t i]
    constructor
    · intro ha
      obtain ⟨r, hr, hp⟩ := some_of_any ha
      simp only [Bool.and_eq_true, beq_iff_eq, bne_iff_ne] at hp
      exact ⟨r, hr, hp.1, hp.2⟩
    · rintro ⟨r, hr, hk, hs⟩
      exact any_of_some hr (by simp [hk, hs])
  · rw [h2 i]
    constructor
    · intro ha
      obtain ⟨r, hr, hp⟩ := some_of_any ha
      exact ⟨r, hr, by simpa using hp⟩
    · rintro ⟨r, hr, hs⟩
      exact any_of_some hr (by simp [hs])
  · have := some_of_all (h4 i) hr
    simpa [ho] using this
  · have ht := h5 t
    simp only [State.checksTap, Bool.and_eq_true, decide_eq_true_eq] at ht
    obtain ⟨⟨hn, hl, hd, hq⟩, hm⟩ := ht
    refine ⟨hn, hl, hd, fun i r hi hr => by simpa using some_of_all (hq i hi) hr, ?_⟩
    revert hm
    cases hst : (s.tap t).state <;> intro hm <;> dsimp only at hm ⊢
    · exact of_decide_eq_true hm
    · intro i r hi hr
      have hh := some_of_all hm hi
      simpa using some_of_all hh hr
    · obtain ⟨i, r, hi, hr, hp⟩ := s.head_of_any hm
      simp only [Bool.and_eq_true, beq_iff_eq, Bool.or_eq_true] at hp
      refine ⟨i, r, hi, hr, hp.1, fun hlow => ?_⟩
      obtain ⟨q, hq, he⟩ := some_of_any (hp.2.resolve_left (by simp [hlow]))
      obtain ⟨e1, e2, e3⟩ := of_decide_eq_true he
      exact ⟨q.localAddress, by rw [hq, ← e1, ← e2, ← e3]⟩
    · obtain ⟨i, r, hi, hr, hp⟩ := s.head_of_any hm
      exact ⟨i, r, hi, hr, by simpa using hp⟩
    · obtain ⟨i, r, hi, hr, hp⟩ := s.head_of_any hm
      exact ⟨i, r, hi, hr, by simpa using hp⟩
    · exact of_decide_eq_true hm

/-! ### Management records -/

/-- Checks that each management record stands in the one queue its state names (R53 to R55). -/
def State.checksMgmt (s : State) : Bool :=
  decide (s.records.mgmtQueue.Nodup ∧ s.records.mgmtResponses.Nodup
    ∧ (∀ i : Fin 3, i ∈ s.records.mgmtQueue ↔ ((s.mgmtAt i).any fun r => r.state != .answered) = true)
    ∧ (∀ i : Fin 3, i ∈ s.records.mgmtResponses ↔ ((s.mgmtAt i).any fun r => r.state == .answered) = true)
    ∧ ∀ i : Fin 3, (s.mgmtAt i).all fun r =>
      decide ((r.state = .executing → s.records.mgmtQueue.head? = some i) ∧ (r.orphan = true → r.state = .executing)
        ∧ (r.state = .answered ↔ r.answer.isSome = true)))

theorem State.mgmtPlaced_of_checks {s : State} (h : s.checksMgmt = true) : s.MgmtPlaced := by
  obtain ⟨h1, h2, h3, h4, h5⟩ := of_decide_eq_true h
  refine ⟨h1, h2, fun i => ?_, fun i => ?_, fun i r hr => ?_⟩
  · rw [h3 i]
    constructor
    · intro ha
      obtain ⟨r, hr, hp⟩ := some_of_any ha
      exact ⟨r, hr, by simpa using hp⟩
    · rintro ⟨r, hr, hs⟩
      exact any_of_some hr (by simp [hs])
  · rw [h4 i]
    constructor
    · intro ha
      obtain ⟨r, hr, hp⟩ := some_of_any ha
      exact ⟨r, hr, by simpa using hp⟩
    · rintro ⟨r, hr, hs⟩
      exact any_of_some hr (by simp [hs])
  · have hi := some_of_all (h5 i) hr
    exact of_decide_eq_true hi

end Sys2Proof.Machine
end

