-- ==== Sys2Proof/Laws/State.lean ====
section
/-! SUPPORT. What each named update of State writes and leaves: one simp lemma for each field and update. -/

namespace Sys2Proof.Machine

/-! ### setPort -/

@[simp] theorem State.resetLow_setPort (s : State) (p : PortId) (x : Port) : (s.setPort p x).resetLow = s.resetLow := by cases p <;> rfl

@[simp] theorem State.timeBase_setPort (s : State) (p : PortId) (x : Port) : (s.setPort p x).timeBase = s.timeBase := by cases p <;> rfl

@[simp] theorem State.upperRx_setPort (s : State) (p : PortId) (x : Port) : (s.setPort p x).upperRx = s.upperRx := by cases p <;> rfl

@[simp] theorem State.lowerRx_setPort (s : State) (p : PortId) (x : Port) : (s.setPort p x).lowerRx = s.lowerRx := by cases p <;> rfl

@[simp] theorem State.lowerTx_setPort (s : State) (p : PortId) (x : Port) : (s.setPort p x).lowerTx = s.lowerTx := by cases p <;> rfl

@[simp] theorem State.pointer_setPort (s : State) (p : PortId) (x : Port) : (s.setPort p x).pointer = s.pointer := by cases p <;> rfl

@[simp] theorem State.classifier_setPort (s : State) (p : PortId) (x : Port) : (s.setPort p x).classifier = s.classifier := by cases p <;> rfl

@[simp] theorem State.windows_setPort (s : State) (p : PortId) (x : Port) : (s.setPort p x).windows = s.windows := by cases p <;> rfl

@[simp] theorem State.records_setPort (s : State) (p : PortId) (x : Port) : (s.setPort p x).records = s.records := by cases p <;> rfl

@[simp] theorem State.taps_setPort (s : State) (p : PortId) (x : Port) : (s.setPort p x).taps = s.taps := by cases p <;> rfl

@[simp] theorem State.watches_setPort (s : State) (p : PortId) (x : Port) : (s.setPort p x).watches = s.watches := by cases p <;> rfl

@[simp] theorem State.attention_setPort (s : State) (p : PortId) (x : Port) : (s.setPort p x).attention = s.attention := by cases p <;> rfl

@[simp] theorem State.mgmt_setPort (s : State) (p : PortId) (x : Port) : (s.setPort p x).mgmt = s.mgmt := by cases p <;> rfl

@[simp] theorem State.pending_setPort (s : State) (p : PortId) (x : Port) : (s.setPort p x).pending = s.pending := by cases p <;> rfl

/-! ### modPort -/

@[simp] theorem State.resetLow_modPort (s : State) (p : PortId) (f : Port → Port) : (s.modPort p f).resetLow = s.resetLow := by cases p <;> rfl

@[simp] theorem State.timeBase_modPort (s : State) (p : PortId) (f : Port → Port) : (s.modPort p f).timeBase = s.timeBase := by cases p <;> rfl

@[simp] theorem State.upperRx_modPort (s : State) (p : PortId) (f : Port → Port) : (s.modPort p f).upperRx = s.upperRx := by cases p <;> rfl

@[simp] theorem State.lowerRx_modPort (s : State) (p : PortId) (f : Port → Port) : (s.modPort p f).lowerRx = s.lowerRx := by cases p <;> rfl

@[simp] theorem State.lowerTx_modPort (s : State) (p : PortId) (f : Port → Port) : (s.modPort p f).lowerTx = s.lowerTx := by cases p <;> rfl

@[simp] theorem State.pointer_modPort (s : State) (p : PortId) (f : Port → Port) : (s.modPort p f).pointer = s.pointer := by cases p <;> rfl

@[simp] theorem State.classifier_modPort (s : State) (p : PortId) (f : Port → Port) : (s.modPort p f).classifier = s.classifier := by cases p <;> rfl

@[simp] theorem State.windows_modPort (s : State) (p : PortId) (f : Port → Port) : (s.modPort p f).windows = s.windows := by cases p <;> rfl

@[simp] theorem State.records_modPort (s : State) (p : PortId) (f : Port → Port) : (s.modPort p f).records = s.records := by cases p <;> rfl

@[simp] theorem State.taps_modPort (s : State) (p : PortId) (f : Port → Port) : (s.modPort p f).taps = s.taps := by cases p <;> rfl

@[simp] theorem State.watches_modPort (s : State) (p : PortId) (f : Port → Port) : (s.modPort p f).watches = s.watches := by cases p <;> rfl

@[simp] theorem State.attention_modPort (s : State) (p : PortId) (f : Port → Port) : (s.modPort p f).attention = s.attention := by cases p <;> rfl

@[simp] theorem State.mgmt_modPort (s : State) (p : PortId) (f : Port → Port) : (s.modPort p f).mgmt = s.mgmt := by cases p <;> rfl

@[simp] theorem State.pending_modPort (s : State) (p : PortId) (f : Port → Port) : (s.modPort p f).pending = s.pending := by cases p <;> rfl

/-! ### modTap -/

@[simp] theorem State.resetLow_modTap (s : State) (t : Fin 4) (f : Tap → Tap) : (s.modTap t f).resetLow = s.resetLow := rfl

@[simp] theorem State.timeBase_modTap (s : State) (t : Fin 4) (f : Tap → Tap) : (s.modTap t f).timeBase = s.timeBase := rfl

@[simp] theorem State.upper_modTap (s : State) (t : Fin 4) (f : Tap → Tap) : (s.modTap t f).upper = s.upper := rfl

@[simp] theorem State.lower_modTap (s : State) (t : Fin 4) (f : Tap → Tap) : (s.modTap t f).lower = s.lower := rfl

@[simp] theorem State.upperRx_modTap (s : State) (t : Fin 4) (f : Tap → Tap) : (s.modTap t f).upperRx = s.upperRx := rfl

@[simp] theorem State.lowerRx_modTap (s : State) (t : Fin 4) (f : Tap → Tap) : (s.modTap t f).lowerRx = s.lowerRx := rfl

@[simp] theorem State.lowerTx_modTap (s : State) (t : Fin 4) (f : Tap → Tap) : (s.modTap t f).lowerTx = s.lowerTx := rfl

@[simp] theorem State.pointer_modTap (s : State) (t : Fin 4) (f : Tap → Tap) : (s.modTap t f).pointer = s.pointer := rfl

@[simp] theorem State.classifier_modTap (s : State) (t : Fin 4) (f : Tap → Tap) : (s.modTap t f).classifier = s.classifier := rfl

@[simp] theorem State.windows_modTap (s : State) (t : Fin 4) (f : Tap → Tap) : (s.modTap t f).windows = s.windows := rfl

@[simp] theorem State.records_modTap (s : State) (t : Fin 4) (f : Tap → Tap) : (s.modTap t f).records = s.records := rfl

@[simp] theorem State.watches_modTap (s : State) (t : Fin 4) (f : Tap → Tap) : (s.modTap t f).watches = s.watches := rfl

@[simp] theorem State.attention_modTap (s : State) (t : Fin 4) (f : Tap → Tap) : (s.modTap t f).attention = s.attention := rfl

@[simp] theorem State.mgmt_modTap (s : State) (t : Fin 4) (f : Tap → Tap) : (s.modTap t f).mgmt = s.mgmt := rfl

@[simp] theorem State.pending_modTap (s : State) (t : Fin 4) (f : Tap → Tap) : (s.modTap t f).pending = s.pending := rfl

/-! ### setTrans -/

@[simp] theorem State.resetLow_setTrans (s : State) (i : Fin 16) (r : Option TransRecord) : (s.setTrans i r).resetLow = s.resetLow := rfl

@[simp] theorem State.timeBase_setTrans (s : State) (i : Fin 16) (r : Option TransRecord) : (s.setTrans i r).timeBase = s.timeBase := rfl

@[simp] theorem State.upper_setTrans (s : State) (i : Fin 16) (r : Option TransRecord) : (s.setTrans i r).upper = s.upper := rfl

@[simp] theorem State.lower_setTrans (s : State) (i : Fin 16) (r : Option TransRecord) : (s.setTrans i r).lower = s.lower := rfl

@[simp] theorem State.upperRx_setTrans (s : State) (i : Fin 16) (r : Option TransRecord) : (s.setTrans i r).upperRx = s.upperRx := rfl

@[simp] theorem State.lowerRx_setTrans (s : State) (i : Fin 16) (r : Option TransRecord) : (s.setTrans i r).lowerRx = s.lowerRx := rfl

@[simp] theorem State.lowerTx_setTrans (s : State) (i : Fin 16) (r : Option TransRecord) : (s.setTrans i r).lowerTx = s.lowerTx := rfl

@[simp] theorem State.pointer_setTrans (s : State) (i : Fin 16) (r : Option TransRecord) : (s.setTrans i r).pointer = s.pointer := rfl

@[simp] theorem State.classifier_setTrans (s : State) (i : Fin 16) (r : Option TransRecord) : (s.setTrans i r).classifier = s.classifier := rfl

@[simp] theorem State.windows_setTrans (s : State) (i : Fin 16) (r : Option TransRecord) : (s.setTrans i r).windows = s.windows := rfl

@[simp] theorem State.taps_setTrans (s : State) (i : Fin 16) (r : Option TransRecord) : (s.setTrans i r).taps = s.taps := rfl

@[simp] theorem State.watches_setTrans (s : State) (i : Fin 16) (r : Option TransRecord) : (s.setTrans i r).watches = s.watches := rfl

@[simp] theorem State.attention_setTrans (s : State) (i : Fin 16) (r : Option TransRecord) : (s.setTrans i r).attention = s.attention := rfl

@[simp] theorem State.mgmt_setTrans (s : State) (i : Fin 16) (r : Option TransRecord) : (s.setTrans i r).mgmt = s.mgmt := rfl

@[simp] theorem State.pending_setTrans (s : State) (i : Fin 16) (r : Option TransRecord) : (s.setTrans i r).pending = s.pending := rfl

/-! ### setMgmt -/

@[simp] theorem State.resetLow_setMgmt (s : State) (i : Fin 3) (r : Option MgmtRecord) : (s.setMgmt i r).resetLow = s.resetLow := rfl

@[simp] theorem State.timeBase_setMgmt (s : State) (i : Fin 3) (r : Option MgmtRecord) : (s.setMgmt i r).timeBase = s.timeBase := rfl

@[simp] theorem State.upper_setMgmt (s : State) (i : Fin 3) (r : Option MgmtRecord) : (s.setMgmt i r).upper = s.upper := rfl

@[simp] theorem State.lower_setMgmt (s : State) (i : Fin 3) (r : Option MgmtRecord) : (s.setMgmt i r).lower = s.lower := rfl

@[simp] theorem State.upperRx_setMgmt (s : State) (i : Fin 3) (r : Option MgmtRecord) : (s.setMgmt i r).upperRx = s.upperRx := rfl

@[simp] theorem State.lowerRx_setMgmt (s : State) (i : Fin 3) (r : Option MgmtRecord) : (s.setMgmt i r).lowerRx = s.lowerRx := rfl

@[simp] theorem State.lowerTx_setMgmt (s : State) (i : Fin 3) (r : Option MgmtRecord) : (s.setMgmt i r).lowerTx = s.lowerTx := rfl

@[simp] theorem State.pointer_setMgmt (s : State) (i : Fin 3) (r : Option MgmtRecord) : (s.setMgmt i r).pointer = s.pointer := rfl

@[simp] theorem State.classifier_setMgmt (s : State) (i : Fin 3) (r : Option MgmtRecord) : (s.setMgmt i r).classifier = s.classifier := rfl

@[simp] theorem State.windows_setMgmt (s : State) (i : Fin 3) (r : Option MgmtRecord) : (s.setMgmt i r).windows = s.windows := rfl

@[simp] theorem State.taps_setMgmt (s : State) (i : Fin 3) (r : Option MgmtRecord) : (s.setMgmt i r).taps = s.taps := rfl

@[simp] theorem State.watches_setMgmt (s : State) (i : Fin 3) (r : Option MgmtRecord) : (s.setMgmt i r).watches = s.watches := rfl

@[simp] theorem State.attention_setMgmt (s : State) (i : Fin 3) (r : Option MgmtRecord) : (s.setMgmt i r).attention = s.attention := rfl

@[simp] theorem State.mgmt_setMgmt (s : State) (i : Fin 3) (r : Option MgmtRecord) : (s.setMgmt i r).mgmt = s.mgmt := rfl

@[simp] theorem State.pending_setMgmt (s : State) (i : Fin 3) (r : Option MgmtRecord) : (s.setMgmt i r).pending = s.pending := rfl

/-! ### modBank -/

@[simp] theorem State.resetLow_modBank (s : State) (b : BankId) (f : Bank → Bank) : (s.modBank b f).resetLow = s.resetLow := rfl

@[simp] theorem State.timeBase_modBank (s : State) (b : BankId) (f : Bank → Bank) : (s.modBank b f).timeBase = s.timeBase := rfl

@[simp] theorem State.upper_modBank (s : State) (b : BankId) (f : Bank → Bank) : (s.modBank b f).upper = s.upper := rfl

@[simp] theorem State.lower_modBank (s : State) (b : BankId) (f : Bank → Bank) : (s.modBank b f).lower = s.lower := rfl

@[simp] theorem State.upperRx_modBank (s : State) (b : BankId) (f : Bank → Bank) : (s.modBank b f).upperRx = s.upperRx := rfl

@[simp] theorem State.lowerRx_modBank (s : State) (b : BankId) (f : Bank → Bank) : (s.modBank b f).lowerRx = s.lowerRx := rfl

@[simp] theorem State.lowerTx_modBank (s : State) (b : BankId) (f : Bank → Bank) : (s.modBank b f).lowerTx = s.lowerTx := rfl

@[simp] theorem State.pointer_modBank (s : State) (b : BankId) (f : Bank → Bank) : (s.modBank b f).pointer = s.pointer := rfl

@[simp] theorem State.classifier_modBank (s : State) (b : BankId) (f : Bank → Bank) : (s.modBank b f).classifier = s.classifier := rfl

@[simp] theorem State.records_modBank (s : State) (b : BankId) (f : Bank → Bank) : (s.modBank b f).records = s.records := rfl

@[simp] theorem State.taps_modBank (s : State) (b : BankId) (f : Bank → Bank) : (s.modBank b f).taps = s.taps := rfl

@[simp] theorem State.watches_modBank (s : State) (b : BankId) (f : Bank → Bank) : (s.modBank b f).watches = s.watches := rfl

@[simp] theorem State.attention_modBank (s : State) (b : BankId) (f : Bank → Bank) : (s.modBank b f).attention = s.attention := rfl

@[simp] theorem State.mgmt_modBank (s : State) (b : BankId) (f : Bank → Bank) : (s.modBank b f).mgmt = s.mgmt := rfl

@[simp] theorem State.pending_modBank (s : State) (b : BankId) (f : Bank → Bank) : (s.modBank b f).pending = s.pending := rfl

/-! ### modAttention -/

@[simp] theorem State.resetLow_modAttention (s : State) (f : Attention → Attention) : (s.modAttention f).resetLow = s.resetLow := rfl

@[simp] theorem State.timeBase_modAttention (s : State) (f : Attention → Attention) : (s.modAttention f).timeBase = s.timeBase := rfl

@[simp] theorem State.upper_modAttention (s : State) (f : Attention → Attention) : (s.modAttention f).upper = s.upper := rfl

@[simp] theorem State.lower_modAttention (s : State) (f : Attention → Attention) : (s.modAttention f).lower = s.lower := rfl

@[simp] theorem State.upperRx_modAttention (s : State) (f : Attention → Attention) : (s.modAttention f).upperRx = s.upperRx := rfl

@[simp] theorem State.lowerRx_modAttention (s : State) (f : Attention → Attention) : (s.modAttention f).lowerRx = s.lowerRx := rfl

@[simp] theorem State.lowerTx_modAttention (s : State) (f : Attention → Attention) : (s.modAttention f).lowerTx = s.lowerTx := rfl

@[simp] theorem State.pointer_modAttention (s : State) (f : Attention → Attention) : (s.modAttention f).pointer = s.pointer := rfl

@[simp] theorem State.classifier_modAttention (s : State) (f : Attention → Attention) : (s.modAttention f).classifier = s.classifier := rfl

@[simp] theorem State.windows_modAttention (s : State) (f : Attention → Attention) : (s.modAttention f).windows = s.windows := rfl

@[simp] theorem State.records_modAttention (s : State) (f : Attention → Attention) : (s.modAttention f).records = s.records := rfl

@[simp] theorem State.taps_modAttention (s : State) (f : Attention → Attention) : (s.modAttention f).taps = s.taps := rfl

@[simp] theorem State.watches_modAttention (s : State) (f : Attention → Attention) : (s.modAttention f).watches = s.watches := rfl

@[simp] theorem State.mgmt_modAttention (s : State) (f : Attention → Attention) : (s.modAttention f).mgmt = s.mgmt := rfl

@[simp] theorem State.pending_modAttention (s : State) (f : Attention → Attention) : (s.modAttention f).pending = s.pending := rfl

/-! ### modWatch -/

@[simp] theorem State.resetLow_modWatch (s : State) (n : Fin 2) (f : Watch → Watch) : (s.modWatch n f).resetLow = s.resetLow := rfl

@[simp] theorem State.timeBase_modWatch (s : State) (n : Fin 2) (f : Watch → Watch) : (s.modWatch n f).timeBase = s.timeBase := rfl

@[simp] theorem State.upper_modWatch (s : State) (n : Fin 2) (f : Watch → Watch) : (s.modWatch n f).upper = s.upper := rfl

@[simp] theorem State.lower_modWatch (s : State) (n : Fin 2) (f : Watch → Watch) : (s.modWatch n f).lower = s.lower := rfl

@[simp] theorem State.upperRx_modWatch (s : State) (n : Fin 2) (f : Watch → Watch) : (s.modWatch n f).upperRx = s.upperRx := rfl

@[simp] theorem State.lowerRx_modWatch (s : State) (n : Fin 2) (f : Watch → Watch) : (s.modWatch n f).lowerRx = s.lowerRx := rfl

@[simp] theorem State.lowerTx_modWatch (s : State) (n : Fin 2) (f : Watch → Watch) : (s.modWatch n f).lowerTx = s.lowerTx := rfl

@[simp] theorem State.pointer_modWatch (s : State) (n : Fin 2) (f : Watch → Watch) : (s.modWatch n f).pointer = s.pointer := rfl

@[simp] theorem State.classifier_modWatch (s : State) (n : Fin 2) (f : Watch → Watch) : (s.modWatch n f).classifier = s.classifier := rfl

@[simp] theorem State.windows_modWatch (s : State) (n : Fin 2) (f : Watch → Watch) : (s.modWatch n f).windows = s.windows := rfl

@[simp] theorem State.records_modWatch (s : State) (n : Fin 2) (f : Watch → Watch) : (s.modWatch n f).records = s.records := rfl

@[simp] theorem State.taps_modWatch (s : State) (n : Fin 2) (f : Watch → Watch) : (s.modWatch n f).taps = s.taps := rfl

@[simp] theorem State.attention_modWatch (s : State) (n : Fin 2) (f : Watch → Watch) : (s.modWatch n f).attention = s.attention := rfl

@[simp] theorem State.mgmt_modWatch (s : State) (n : Fin 2) (f : Watch → Watch) : (s.modWatch n f).mgmt = s.mgmt := rfl

@[simp] theorem State.pending_modWatch (s : State) (n : Fin 2) (f : Watch → Watch) : (s.modWatch n f).pending = s.pending := rfl

/-! ### Accessors that an update does not reach -/

@[simp] theorem State.tap_setPort (s : State) (p : PortId) (x : Port) (u : Fin 4) :
    (s.setPort p x).tap u = s.tap u := by cases p <;> rfl

@[simp] theorem State.transAt_setPort (s : State) (p : PortId) (x : Port) (j : Fin 16) :
    (s.setPort p x).transAt j = s.transAt j := by cases p <;> rfl

@[simp] theorem State.mgmtAt_setPort (s : State) (p : PortId) (x : Port) (j : Fin 3) :
    (s.setPort p x).mgmtAt j = s.mgmtAt j := by cases p <;> rfl

@[simp] theorem State.bank_setPort (s : State) (p : PortId) (x : Port) (c : BankId) :
    (s.setPort p x).bank c = s.bank c := by cases p <;> rfl

@[simp] theorem State.watch_setPort (s : State) (p : PortId) (x : Port) (m : Fin 2) :
    (s.setPort p x).watch m = s.watch m := by cases p <;> rfl

@[simp] theorem State.tap_modPort (s : State) (p : PortId) (f : Port → Port) (u : Fin 4) :
    (s.modPort p f).tap u = s.tap u := by cases p <;> rfl

@[simp] theorem State.transAt_modPort (s : State) (p : PortId) (f : Port → Port) (j : Fin 16) :
    (s.modPort p f).transAt j = s.transAt j := by cases p <;> rfl

@[simp] theorem State.mgmtAt_modPort (s : State) (p : PortId) (f : Port → Port) (j : Fin 3) :
    (s.modPort p f).mgmtAt j = s.mgmtAt j := by cases p <;> rfl

@[simp] theorem State.bank_modPort (s : State) (p : PortId) (f : Port → Port) (c : BankId) :
    (s.modPort p f).bank c = s.bank c := by cases p <;> rfl

@[simp] theorem State.watch_modPort (s : State) (p : PortId) (f : Port → Port) (m : Fin 2) :
    (s.modPort p f).watch m = s.watch m := by cases p <;> rfl

@[simp] theorem State.transAt_modTap (s : State) (t : Fin 4) (f : Tap → Tap) (j : Fin 16) :
    (s.modTap t f).transAt j = s.transAt j := rfl

@[simp] theorem State.mgmtAt_modTap (s : State) (t : Fin 4) (f : Tap → Tap) (j : Fin 3) :
    (s.modTap t f).mgmtAt j = s.mgmtAt j := rfl

@[simp] theorem State.bank_modTap (s : State) (t : Fin 4) (f : Tap → Tap) (c : BankId) :
    (s.modTap t f).bank c = s.bank c := rfl

@[simp] theorem State.watch_modTap (s : State) (t : Fin 4) (f : Tap → Tap) (m : Fin 2) :
    (s.modTap t f).watch m = s.watch m := rfl

@[simp] theorem State.port_modTap (s : State) (t : Fin 4) (f : Tap → Tap) (q : PortId) :
    (s.modTap t f).port q = s.port q := by cases q <;> rfl

@[simp] theorem State.tap_setTrans (s : State) (i : Fin 16) (r : Option TransRecord) (u : Fin 4) :
    (s.setTrans i r).tap u = s.tap u := rfl

@[simp] theorem State.mgmtAt_setTrans (s : State) (i : Fin 16) (r : Option TransRecord) (j : Fin 3) :
    (s.setTrans i r).mgmtAt j = s.mgmtAt j := rfl

@[simp] theorem State.bank_setTrans (s : State) (i : Fin 16) (r : Option TransRecord) (c : BankId) :
    (s.setTrans i r).bank c = s.bank c := rfl

@[simp] theorem State.watch_setTrans (s : State) (i : Fin 16) (r : Option TransRecord) (m : Fin 2) :
    (s.setTrans i r).watch m = s.watch m := rfl

@[simp] theorem State.port_setTrans (s : State) (i : Fin 16) (r : Option TransRecord) (q : PortId) :
    (s.setTrans i r).port q = s.port q := by cases q <;> rfl

@[simp] theorem State.tap_setMgmt (s : State) (i : Fin 3) (r : Option MgmtRecord) (u : Fin 4) :
    (s.setMgmt i r).tap u = s.tap u := rfl

@[simp] theorem State.transAt_setMgmt (s : State) (i : Fin 3) (r : Option MgmtRecord) (j : Fin 16) :
    (s.setMgmt i r).transAt j = s.transAt j := rfl

@[simp] theorem State.bank_setMgmt (s : State) (i : Fin 3) (r : Option MgmtRecord) (c : BankId) :
    (s.setMgmt i r).bank c = s.bank c := rfl

@[simp] theorem State.watch_setMgmt (s : State) (i : Fin 3) (r : Option MgmtRecord) (m : Fin 2) :
    (s.setMgmt i r).watch m = s.watch m := rfl

@[simp] theorem State.port_setMgmt (s : State) (i : Fin 3) (r : Option MgmtRecord) (q : PortId) :
    (s.setMgmt i r).port q = s.port q := by cases q <;> rfl

@[simp] theorem State.tap_modBank (s : State) (b : BankId) (f : Bank → Bank) (u : Fin 4) :
    (s.modBank b f).tap u = s.tap u := rfl

@[simp] theorem State.transAt_modBank (s : State) (b : BankId) (f : Bank → Bank) (j : Fin 16) :
    (s.modBank b f).transAt j = s.transAt j := rfl

@[simp] theorem State.mgmtAt_modBank (s : State) (b : BankId) (f : Bank → Bank) (j : Fin 3) :
    (s.modBank b f).mgmtAt j = s.mgmtAt j := rfl

@[simp] theorem State.watch_modBank (s : State) (b : BankId) (f : Bank → Bank) (m : Fin 2) :
    (s.modBank b f).watch m = s.watch m := rfl

@[simp] theorem State.port_modBank (s : State) (b : BankId) (f : Bank → Bank) (q : PortId) :
    (s.modBank b f).port q = s.port q := by cases q <;> rfl

@[simp] theorem State.tap_modAttention (s : State) (f : Attention → Attention) (u : Fin 4) :
    (s.modAttention f).tap u = s.tap u := rfl

@[simp] theorem State.transAt_modAttention (s : State) (f : Attention → Attention) (j : Fin 16) :
    (s.modAttention f).transAt j = s.transAt j := rfl

@[simp] theorem State.mgmtAt_modAttention (s : State) (f : Attention → Attention) (j : Fin 3) :
    (s.modAttention f).mgmtAt j = s.mgmtAt j := rfl

@[simp] theorem State.bank_modAttention (s : State) (f : Attention → Attention) (c : BankId) :
    (s.modAttention f).bank c = s.bank c := rfl

@[simp] theorem State.watch_modAttention (s : State) (f : Attention → Attention) (m : Fin 2) :
    (s.modAttention f).watch m = s.watch m := rfl

@[simp] theorem State.port_modAttention (s : State) (f : Attention → Attention) (q : PortId) :
    (s.modAttention f).port q = s.port q := by cases q <;> rfl

@[simp] theorem State.tap_modWatch (s : State) (n : Fin 2) (f : Watch → Watch) (u : Fin 4) :
    (s.modWatch n f).tap u = s.tap u := rfl

@[simp] theorem State.transAt_modWatch (s : State) (n : Fin 2) (f : Watch → Watch) (j : Fin 16) :
    (s.modWatch n f).transAt j = s.transAt j := rfl

@[simp] theorem State.mgmtAt_modWatch (s : State) (n : Fin 2) (f : Watch → Watch) (j : Fin 3) :
    (s.modWatch n f).mgmtAt j = s.mgmtAt j := rfl

@[simp] theorem State.bank_modWatch (s : State) (n : Fin 2) (f : Watch → Watch) (c : BankId) :
    (s.modWatch n f).bank c = s.bank c := rfl

@[simp] theorem State.port_modWatch (s : State) (n : Fin 2) (f : Watch → Watch) (q : PortId) :
    (s.modWatch n f).port q = s.port q := by cases q <;> rfl

/-! ### Accessors that read back what was written -/

@[simp] theorem State.port_setPort_self (s : State) (p : PortId) (x : Port) : (s.setPort p x).port p = x := by
  cases p <;> rfl

@[simp] theorem State.port_modPort_self (s : State) (p : PortId) (f : Port → Port) :
    (s.modPort p f).port p = f (s.port p) := by
  cases p <;> rfl

@[simp] theorem State.upper_modPort_upper (s : State) (f : Port → Port) : (s.modPort .upper f).upper = f s.upper := rfl

@[simp] theorem State.lower_modPort_upper (s : State) (f : Port → Port) : (s.modPort .upper f).lower = s.lower := rfl

@[simp] theorem State.lower_modPort_lower (s : State) (f : Port → Port) : (s.modPort .lower f).lower = f s.lower := rfl

@[simp] theorem State.upper_modPort_lower (s : State) (f : Port → Port) : (s.modPort .lower f).upper = s.upper := rfl

@[simp] theorem State.tap_modTap_self (s : State) (t : Fin 4) (f : Tap → Tap) : (s.modTap t f).tap t = f (s.tap t) := by
  simp [State.tap, State.modTap]

theorem State.tap_modTap_ne (s : State) {t u : Fin 4} (h : u ≠ t) (f : Tap → Tap) :
    (s.modTap t f).tap u = s.tap u := by
  have h' : t.val ≠ u.val := fun e => h (Fin.ext e.symm)
  simp [State.tap, State.modTap, Vector.getElem_set_ne, h']

@[simp] theorem State.transAt_setTrans_self (s : State) (i : Fin 16) (r : Option TransRecord) :
    (s.setTrans i r).transAt i = r := by
  simp [State.transAt, State.setTrans]

theorem State.transAt_setTrans_ne (s : State) {i j : Fin 16} (h : j ≠ i) (r : Option TransRecord) :
    (s.setTrans i r).transAt j = s.transAt j := by
  have h' : i.val ≠ j.val := fun e => h (Fin.ext e.symm)
  simp [State.transAt, State.setTrans, Vector.getElem_set_ne, h']

@[simp] theorem State.mgmtAt_setMgmt_self (s : State) (i : Fin 3) (r : Option MgmtRecord) :
    (s.setMgmt i r).mgmtAt i = r := by
  simp [State.mgmtAt, State.setMgmt]

theorem State.mgmtAt_setMgmt_ne (s : State) {i j : Fin 3} (h : j ≠ i) (r : Option MgmtRecord) :
    (s.setMgmt i r).mgmtAt j = s.mgmtAt j := by
  have h' : i.val ≠ j.val := fun e => h (Fin.ext e.symm)
  simp [State.mgmtAt, State.setMgmt, Vector.getElem_set_ne, h']

@[simp] theorem Windows.bank_setBank_self (w : Windows) (b : BankId) (x : Bank) : (w.setBank b x).bank b = x := by
  cases b <;> rfl

theorem Windows.bank_setBank_ne (w : Windows) {b c : BankId} (h : c ≠ b) (x : Bank) :
    (w.setBank b x).bank c = w.bank c := by
  cases b <;> cases c <;> first | rfl | exact absurd rfl h

@[simp] theorem Windows.selector_setBank (w : Windows) (b : BankId) (x : Bank) :
    (w.setBank b x).selector = w.selector := by
  cases b <;> rfl

@[simp] theorem State.bank_modBank_self (s : State) (b : BankId) (f : Bank → Bank) :
    (s.modBank b f).bank b = f (s.bank b) := by
  simp [State.bank, State.modBank]

theorem State.bank_modBank_ne (s : State) {b c : BankId} (h : c ≠ b) (f : Bank → Bank) :
    (s.modBank b f).bank c = s.bank c := by
  simp [State.bank, State.modBank, Windows.bank_setBank_ne _ h]

@[simp] theorem State.selector_modBank (s : State) (b : BankId) (f : Bank → Bank) :
    (s.modBank b f).windows.selector = s.windows.selector := by
  simp [State.modBank]

@[simp] theorem State.watch_modWatch_self (s : State) (n : Fin 2) (f : Watch → Watch) :
    (s.modWatch n f).watch n = f (s.watch n) := by
  simp [State.watch, State.modWatch]

theorem State.watch_modWatch_ne (s : State) {n m : Fin 2} (h : m ≠ n) (f : Watch → Watch) :
    (s.modWatch n f).watch m = s.watch m := by
  have h' : n.val ≠ m.val := fun e => h (Fin.ext e.symm)
  simp [State.watch, State.modWatch, Vector.getElem_set_ne, h']

@[simp] theorem State.attention_modAttention (s : State) (f : Attention → Attention) :
    (s.modAttention f).attention = f s.attention := rfl

/-! ### Updates that change nothing -/

@[simp] theorem State.setPort_port (s : State) (p : PortId) : s.setPort p (s.port p) = s := by cases p <;> rfl

end Sys2Proof.Machine
end

