-- ==== Sys2Proof/Laws/Mgmt.lean ====
section
/-! SUPPORT. What beginning and ending a management operation does: the beginning of a ready record, its answer, and the records of a finished operation. -/

namespace Sys2Proof.Machine

/-- A ready record is the one to begin. -/
theorem State.CanBegin.beginnable {s : State} {i : Fin 3} {r : MgmtRecord} (h : s.CanBegin i r) :
    s.beginnable? = some (i, r) := by
  obtain ⟨_, hp, he, hq, hr, hw, _⟩ := h
  cases hm : s.records.mgmtQueue with
  | nil => simp [hm] at hq
  | cons j rest =>
    simp [hm] at hq
    subst hq
    simp [State.beginnable?, State.mgmtHead?, hp, he, hm, hr, hw]

/-- Outside reset a command's outcome is its effect. -/
theorem State.taken_of_released {s t : State} (h : s.resetLow = false) : s.taken t = .next t := by
  simp [State.taken, h]

/-- Beginning a ready record with the right number of operands is its body's outcome (R130). -/
theorem State.begin_ready {s : State} {i : Fin 3} {r : MgmtRecord} {op : Op} {ws : List Word}
    (h : s.Ready i r op ws) (body : State → List Word → Begun) (hc : ws.length = op.operandCount) :
    s.begin op body = (s.startMgmt i r).conclude i (body (s.startMgmt i r) ws) := by
  obtain ⟨hb, ho, hw⟩ := h
  subst hw
  simp [State.begin, hb.beginnable, ho, hc]

/-- Beginning a ready record with another number of operands is refused BAD_OPERAND (R130). -/
theorem State.begin_wrong_count {s : State} {i : Fin 3} {r : MgmtRecord} {op : Op} {ws : List Word}
    (h : s.Ready i r op ws) (body : State → List Word → Begun) (hc : ws.length ≠ op.operandCount) :
    s.begin op body = (s.startMgmt i r).finishMgmt i .badOperand [] := by
  obtain ⟨hb, ho, hw⟩ := h
  subst hw
  simp [State.begin, hb.beginnable, ho, hc]

/-- The end of an operation that has left the record table as its beginning did: the record is answered (R53, R131). -/
theorem State.finishMgmt_started {s u : State} {i : Fin 3} {r : MgmtRecord} (h : s.CanBegin i r)
    (hu : u.records = (s.startMgmt i r).records) (code : Code) (result : List Word) :
    u.finishMgmt i code result = ({ u with records := s.records } : State).mgmtAnswered i r code result := by
  obtain ⟨_, _, _, hq, hr, _, ho⟩ := h
  cases hm : s.records.mgmtQueue with
  | nil => simp [hm] at hq
  | cons j rest =>
    simp [hm] at hq
    subst hq
    simp [State.finishMgmt, State.mgmtAt, State.startMgmt, State.setMgmt, State.mgmtAnswered, hu, ho, hm]

/-- The refusal of an operation changes its own record alone (R130). -/
theorem State.conclude_refuse {s : State} {i : Fin 3} {r : MgmtRecord} (h : s.CanBegin i r) (code : Code) :
    (s.startMgmt i r).conclude i (.refuse code) = s.mgmtAnswered i r code [] :=
  (State.finishMgmt_started h rfl code []).trans rfl

/-- An operation over in one event that leaves the record table alone (R131). -/
theorem State.conclude_done {s u : State} {i : Fin 3} {r : MgmtRecord} (h : s.CanBegin i r)
    (hu : u.records = (s.startMgmt i r).records) (result : List Word) :
    (s.startMgmt i r).conclude i (.done result u) =
      ({ u with records := s.records } : State).mgmtAnswered i r .ok result :=
  State.finishMgmt_started h hu .ok result

/-- What the end of an operation can change: the records (R131). -/
theorem State.finishMgmt_changes (s : State) (i : Fin 3) (code : Code) (result : List Word) :
    ∃ m q p, s.finishMgmt i code result =
      { s with records := { s.records with mgmt := m, mgmtQueue := q, mgmtResponses := p } } := by
  unfold State.finishMgmt
  cases h : s.mgmtAt i with
  | none => exact ⟨_, _, _, rfl⟩
  | some r => dsimp only; split <;> exact ⟨_, _, _, rfl⟩

/-- What finishing the operation in progress can change: the records (R131). -/
theorem State.finishExecuting_changes (s : State) (op : Op) (code : Code) (result : List Word) :
    ∃ m q p, s.finishExecuting op code result =
      { s with records := { s.records with mgmt := m, mgmtQueue := q, mgmtResponses := p } } := by
  unfold State.finishExecuting
  cases h : s.mgmtHead? .executing with
  | none => exact ⟨_, _, _, rfl⟩
  | some ir =>
    dsimp only
    split
    · exact s.finishMgmt_changes _ _ _
    · exact ⟨_, _, _, rfl⟩

/-- The end of an operation that has left the management records as its beginning did, whatever else it did: its record is
answered (R53, R131). -/
theorem State.finishMgmt_kept {s u : State} {i : Fin 3} {r : MgmtRecord} (h : s.CanBegin i r)
    (hm : u.records.mgmt = (s.startMgmt i r).records.mgmt) (hq : u.records.mgmtQueue = s.records.mgmtQueue)
    (code : Code) (result : List Word) :
    u.finishMgmt i code result =
      ({ u with records := { u.records with mgmt := s.records.mgmt } } : State).mgmtAnswered i r code result := by
  obtain ⟨_, _, _, hh, hr, _, ho⟩ := h
  cases hl : s.records.mgmtQueue with
  | nil => simp [hl] at hh
  | cons j rest =>
    simp [hl] at hh
    subst hh
    have ha : u.mgmtAt j = some { r with state := .executing } := by
      simp [State.mgmtAt, hm, State.startMgmt, State.setMgmt]
    simp [State.finishMgmt, ha, ho, State.setMgmt, State.mgmtAnswered, hq, hl, hm, State.startMgmt]

/-- A command that begins a ready record and whose body carries the operation out, leaving the record table alone. -/
theorem State.taken_done {s v : State} {i : Fin 3} {r : MgmtRecord} {op : Op} {ws : List Word}
    {body : State → List Word → Begun} {result : List Word} (h : s.Ready i r op ws)
    (hc : ws.length = op.operandCount)
    (hb : ∃ u, body (s.startMgmt i r) ws = .done result u ∧ u.records = (s.startMgmt i r).records
      ∧ ({ u with records := s.records } : State) = v) :
    s.taken (s.begin op body) = .next (v.mgmtAnswered i r .ok result) := by
  obtain ⟨u, h1, h2, rfl⟩ := hb
  rw [State.taken_of_released h.1.1, State.begin_ready h body hc, h1, State.conclude_done h.1 h2]

/-- A command that begins a ready record and whose body carries the operation out, leaving the management records
alone. -/
theorem State.taken_done_kept {s v : State} {i : Fin 3} {r : MgmtRecord} {op : Op} {ws : List Word}
    {body : State → List Word → Begun} {result : List Word} (h : s.Ready i r op ws)
    (hc : ws.length = op.operandCount)
    (hb : ∃ u, body (s.startMgmt i r) ws = .done result u ∧ u.records.mgmt = (s.startMgmt i r).records.mgmt
      ∧ u.records.mgmtQueue = s.records.mgmtQueue
      ∧ ({ u with records := { u.records with mgmt := s.records.mgmt } } : State) = v) :
    s.taken (s.begin op body) = .next (v.mgmtAnswered i r .ok result) := by
  obtain ⟨u, h1, h2, h3, rfl⟩ := hb
  rw [State.taken_of_released h.1.1, State.begin_ready h body hc, h1]
  exact congrArg _ (State.finishMgmt_kept h.1 h2 h3 .ok result)

/-- A command that begins a ready record and whose body refuses it. -/
theorem State.taken_refuse {s : State} {i : Fin 3} {r : MgmtRecord} {op : Op} {ws : List Word}
    {body : State → List Word → Begun} {code : Code} (h : s.Ready i r op ws) (hc : ws.length = op.operandCount)
    (hb : body (s.startMgmt i r) ws = .refuse code) :
    s.taken (s.begin op body) = .next (s.mgmtAnswered i r code []) := by
  rw [State.taken_of_released h.1.1, State.begin_ready h body hc, hb, State.conclude_refuse h.1]

/-- A command that begins a ready record and whose body leaves the operation in progress. -/
theorem State.taken_span {s u : State} {i : Fin 3} {r : MgmtRecord} {op : Op} {ws : List Word}
    {body : State → List Word → Begun} (h : s.Ready i r op ws) (hc : ws.length = op.operandCount)
    (hb : body (s.startMgmt i r) ws = .span u) : s.taken (s.begin op body) = .next u := by
  rw [State.taken_of_released h.1.1, State.begin_ready h body hc, hb]
  rfl

/-! ### What a begun record leaves as it was -/

@[simp] theorem State.tap_startMgmt (s : State) (i : Fin 3) (r : MgmtRecord) (t : Fin 4) :
    (s.startMgmt i r).tap t = s.tap t := rfl

@[simp] theorem State.bank_startMgmt (s : State) (i : Fin 3) (r : MgmtRecord) (b : BankId) :
    (s.startMgmt i r).bank b = s.bank b := rfl

@[simp] theorem State.port_startMgmt (s : State) (i : Fin 3) (r : MgmtRecord) (p : PortId) :
    (s.startMgmt i r).port p = s.port p := by cases p <;> rfl

@[simp] theorem State.watch_startMgmt (s : State) (i : Fin 3) (r : MgmtRecord) (n : Fin 2) :
    (s.startMgmt i r).watch n = s.watch n := rfl

@[simp] theorem State.transAt_startMgmt (s : State) (i : Fin 3) (r : MgmtRecord) (j : Fin 16) :
    (s.startMgmt i r).transAt j = s.transAt j := rfl

@[simp] theorem State.mgmt_startMgmt (s : State) (i : Fin 3) (r : MgmtRecord) : (s.startMgmt i r).mgmt = s.mgmt := rfl

@[simp] theorem State.attention_startMgmt (s : State) (i : Fin 3) (r : MgmtRecord) :
    (s.startMgmt i r).attention = s.attention := rfl

@[simp] theorem State.windows_startMgmt (s : State) (i : Fin 3) (r : MgmtRecord) :
    (s.startMgmt i r).windows = s.windows := rfl

/-! ### Operands -/

theorem index?_one {n : Nat} (k : Fin n) (h : n ≤ 2 ^ 32) : index? n (one k.val).toNat = some k := by
  have hk := k.isLt
  have e : (one k.val).toNat = k.val := by
    simp [one]
    omega
  simp [e, index?]

@[simp] theorem index?_tap (k : Fin 4) : index? 4 (one k.val).toNat = some k := index?_one k (by decide)

@[simp] theorem index?_watch (k : Fin 2) : index? 2 (one k.val).toNat = some k := index?_one k (by decide)

@[simp] theorem index?_entry (k : Fin 32) : index? 32 (one k.val).toNat = some k := index?_one k (by decide)

theorem index?_none {n v : Nat} (h : n ≤ v) : index? n v = none := by simp [index?, h]

@[simp] theorem bank?_one (b : BankId) : bank? (one b.num).toNat = some b := by cases b <;> rfl

theorem bank?_none {v : Nat} (h : 2 ≤ v) : bank? v = none := by
  match v, h with | _ + 2, _ => rfl

@[simp] theorem target?_one (b : BankId) : target? (one b.num).toNat = some (some b) := by cases b <;> rfl

@[simp] theorem flag?_one (b : Bool) : flag? (one b.toNat).toNat = some b := by cases b <;> rfl

theorem flag?_none {v : Nat} (h : 2 ≤ v) : flag? v = none := by
  match v, h with | _ + 2, _ => rfl

end Sys2Proof.Machine
end

