-- ==== Sys2Proof/Laws/Ops.lean ====
section
/-! SUPPORT. What each shared operation can change, said once: every field it is not shown to change is kept. -/

namespace Sys2Proof.Machine

/-! ### Counts, timers and credits -/

/-- A count that has room rises; it never passes 65535 (R22, R93, R139). -/
theorem addCount_toNat (c : Count) (n : Nat) : (addCount c n).toNat = min (c.toNat + n) 65535 := by
  simp [addCount, BitVec.toNat_ofNat]

theorem bump_toNat (c : Count) : (bump c).toNat = min (c.toNat + 1) 65535 := addCount_toNat c 1

/-- A count raised by 0 stays. -/
theorem addCount_zero (c : Count) : addCount c 0 = c := by
  apply BitVec.eq_of_toNat_eq
  rw [addCount_toNat]
  have := c.isLt
  omega

/-- Two rises of a count add up. -/
theorem addCount_addCount (c : Count) (m n : Nat) : addCount (addCount c m) n = addCount c (m + n) := by
  apply BitVec.eq_of_toNat_eq
  simp only [addCount_toNat]
  omega

theorem Timer.step_stopped : Timer.step none = none := rfl

theorem Timer.due_iff (t : Timer) : Timer.due t = true ↔ t = some 0 := by simp [Timer.due]

/-- One slot freed changes credits owed alone (R179). -/
theorem Port.oweOne_changes (p : Port) :
    ∃ o d, p.oweOne = { p with owed := o, draws := d } ∧ o ≤ 8 ∧ (p.owed < 8 → o = p.owed + 1 ∧ d = p.draws) := by
  unfold Port.oweOne
  split
  · exact ⟨_, _, rfl, by omega, fun _ => ⟨rfl, rfl⟩⟩
  · exact ⟨_, _, rfl, by omega, fun h => absurd h ‹_›⟩

/-- Slots freed change credits owed alone (R179). -/
theorem Port.owe_changes (p : Port) (n : Nat) :
    ∃ o d, p.owe n = { p with owed := o, draws := d } ∧ (p.owed ≤ 8 → o ≤ 8) := by
  induction n generalizing p with
  | zero => exact ⟨_, _, rfl, id⟩
  | succ n ih =>
    unfold Port.owe
    split
    · obtain ⟨o, d, h, ho, _⟩ := p.oweOne_changes
      obtain ⟨o', d', h', ho'⟩ := ih p.oweOne
      refine ⟨o', d', by rw [h', h], fun _ => ho' ?_⟩
      rw [h]
      exact ho
    · exact ⟨_, _, rfl, id⟩

/-- Slots freed while the port is not UP owe nothing (R179). -/
theorem Port.owe_of_not_up {p : Port} (h : p.state ≠ .up) (n : Nat) : p.owe n = p := by
  cases n <;> simp [Port.owe, h]

/-- A slot freed while the port is UP owes one credit more (R179). -/
theorem Port.owe_one_of_up {p : Port} (h : p.state = .up) (ho : p.owed < 8) :
    p.owe 1 = { p with owed := p.owed + 1 } := by
  simp [Port.owe, Port.oweOne, h, ho]

/-- Credits owed stay within their range (R169). -/
theorem Port.owed_owe_le {p : Port} (h : p.owed ≤ 8) (n : Nat) : (p.owe n).owed ≤ 8 := by
  obtain ⟨o, d, he, ho⟩ := p.owe_changes n
  rw [he]
  exact ho h

@[simp] theorem Port.state_owe (p : Port) (n : Nat) : (p.owe n).state = p.state := by
  obtain ⟨o, d, h, _⟩ := p.owe_changes n
  rw [h]

@[simp] theorem Port.credit_owe (p : Port) (n : Nat) : (p.owe n).credit = p.credit := by
  obtain ⟨o, d, h, _⟩ := p.owe_changes n
  rw [h]

@[simp] theorem Port.capacity_owe (p : Port) (n : Nat) : (p.owe n).capacity = p.capacity := by
  obtain ⟨o, d, h, _⟩ := p.owe_changes n
  rw [h]

/-- A slot freed at a port in UP: credits owed, for every port that agrees with this one on what is owed (R179). -/
theorem Port.owe_one_owes (p : Port) :
    ∃ o d, p.Owes o d ∧ ∀ x : Port, x.state = .up → x.owed = p.owed → x.draws = p.draws →
      x.owe 1 = { x with owed := o, draws := d } := by
  by_cases h : p.owed < 8
  · exact ⟨p.owed + 1, p.draws, ⟨fun _ => ⟨rfl, rfl⟩, by omega⟩,
      fun x h0 h1 h2 => by simp [Port.owe, Port.oweOne, h0, h1, h2, h]⟩
  · exact ⟨(Config.owedPastEight p.draws).val, p.draws + 1, ⟨fun h' => absurd h' h, by omega⟩,
      fun x h0 h1 h2 => by simp [Port.owe, Port.oweOne, h0, h1, h2, h]⟩

/-! ### Attention -/

/-- An announcement changes the attention unit alone (R116). -/
theorem State.announceIfDue_changes (s : State) : ∃ a, s.announceIfDue = { s with attention := a } := by
  unfold State.announceIfDue
  split <;> exact ⟨_, rfl⟩

/-- A flag's cause changes the attention unit alone (R114, R116). -/
theorem State.raiseFlag_changes (s : State) (n : Nat) : ∃ a, s.raiseFlag n = { s with attention := a } := by
  unfold State.raiseFlag
  obtain ⟨a, h⟩ := ({ s with attention := s.attention.latch (flagMask n) } : State).announceIfDue_changes
  exact ⟨a, by rw [h]⟩

/-- No announcement is made while one stands (R117). -/
theorem State.announceIfDue_of_announced {s : State} (h : s.attention.quiet = false) : s.announceIfDue = s := by
  simp [State.announceIfDue, State.mayAnnounce, h]

/-- No announcement is made while the upper port is not UP (R116). -/
theorem State.announceIfDue_of_not_up {s : State} (h : s.upper.state ≠ .up) : s.announceIfDue = s := by
  simp [State.announceIfDue, State.mayAnnounce, h]

/-- An announcement sets and enables no flag (R116). -/
theorem State.flags_announceIfDue (s : State) :
    s.announceIfDue.attention.flagsSet = s.attention.flagsSet
      ∧ s.announceIfDue.attention.flagsEnabled = s.attention.flagsEnabled := by
  unfold State.announceIfDue
  split <;> simp [Attention.announce]

/-- What an announcement, due or not, does to the attention unit (R116, R117). -/
theorem State.attention_announceIfDue (s : State) :
    s.announceIfDue.attention = s.announced s.upper.state s.attention := by
  have h : s.mayAnnounce = true ↔ s.attention.newList = none ∧ s.upper.state = .up ∧
      s.attention.flagsSet &&& s.attention.flagsEnabled &&& ~~~s.attention.flagsAnnounced ≠ 0 := by
    simp [State.mayAnnounce, Attention.quiet, Attention.eligible, and_assoc]
  unfold State.announceIfDue State.announced
  simp only [h]
  split <;> rfl

/-- A latched flag keeps its announced mark if it was set, and loses it otherwise (R114). -/
theorem Attention.latch_flagMask (a : Attention) (n : Nat) :
    a.latch (flagMask n) = { a with
      flagsSet := a.flagsSet ||| flagMask n
      flagsAnnounced := if a.flagsSet.getLsbD n then a.flagsAnnounced else a.flagsAnnounced &&& ~~~flagMask n } := by
  unfold Attention.latch
  have hm : ∀ i, (flagMask n).getLsbD i = true → i = n := by
    intro i h
    simp only [flagMask, BitVec.getLsbD_shiftLeft, BitVec.getLsbD_one] at h
    simp only [Bool.and_eq_true, decide_eq_true_eq, Bool.not_eq_true', decide_eq_false_iff_not] at h
    omega
  congr 1
  split <;> rename_i h <;> apply BitVec.eq_of_getLsbD_eq <;> intro i hi <;>
    simp only [BitVec.getLsbD_and, BitVec.getLsbD_not, hi, decide_true, Bool.true_and] <;> have := hm i <;> grind

/-- What a flag's cause does to the attention unit (R114, R116, R117). -/
theorem State.flagRaised_raiseFlag (s : State) (n : Nat) : s.FlagRaised (s.raiseFlag n) n := by
  unfold State.FlagRaised State.raiseFlag
  rw [State.attention_announceIfDue]
  simp only [Attention.latch_flagMask]
  rfl

/-! ### The end of an exchange -/

/-- With no rise of TtACK waiting, the end of an exchange withdraws the request and stops the timer, and no more (R72). -/
theorem Tap.withdraw_of_rises (p : Tap) (h : p.rises = []) :
    p.withdraw = { p with ackTimer := none, presented := none, driving := false, rises := [] } := by
  have hw : p.waitingTransfers = [] := by
    unfold Tap.waitingTransfers
    split
    · split <;> simp [h]
    · rfl
  simp [Tap.withdraw, hw, h, addCount_zero]

/-- The rises of kind DONE (R191). -/
theorem countDone (ks : List (BitVec 2)) : (ks.filter fun k => ackKind k == .done).length = ks.count 0#2 := by
  rw [List.count_eq_countP, List.countP_eq_length_filter]
  congr 2; funext k; revert k; decide

/-- The transfers of a tap after the end of an exchange (R191). -/
theorem Tap.transfers_withdraw (p : Tap) : p.withdraw.transfers = p.transfersAtEnd := by
  have hf := countDone p.rises
  unfold Tap.withdraw Tap.waitingTransfers Tap.transfersAtEnd
  rcases p.presented with _ | ⟨_ | _, a, n, d⟩ <;> simp [hf, List.map_const']

/-- The late acknowledges of a tap after the end of an exchange (R79, R191). -/
theorem Tap.late_withdraw (p : Tap) : p.withdraw.counters.late = p.lateAtEnd := by
  have hf := countDone p.rises
  unfold Tap.withdraw Tap.waitingTransfers Tap.lateAtEnd
  rcases p.presented with _ | ⟨_ | _, a, n, d⟩ <;> simp [hf]

/-- The end of an exchange, in the terms of the statements (R72, R191). -/
theorem Tap.withdraw_eq (p : Tap) : p.withdraw = { p with
    ackTimer := none, presented := none, driving := false, rises := [], transfers := p.transfersAtEnd
    counters := { p.counters with late := p.lateAtEnd } } := by
  rw [← p.transfers_withdraw, ← p.late_withdraw]; rfl

/-! ### Records -/

/-- A record's leaving its tap's queue changes the taps alone (R70). -/
theorem State.dequeue_changes (s : State) (t : Fin 4) (i : Fin 16) :
    ∃ ts, s.dequeue t i = { s with taps := ts } := ⟨_, rfl⟩

/-- An answer changes the transaction records, the local response queue and the taps alone (R51). -/
theorem State.answer_changes (s : State) (i : Fin 16) (code : Code) (data : Option (List Word)) :
    ∃ tr lr ts, s.answer i code data =
      { s with records := { s.records with trans := tr, localResponses := lr }, taps := ts } := by
  unfold State.answer
  cases h : s.transAt i with
  | none => exact ⟨_, _, _, rfl⟩
  | some r => exact ⟨_, _, _, rfl⟩

/-- The answers of several records change what one answer changes (R51). -/
theorem State.answerAll_changes (s : State) (is : List (Fin 16)) (code : Code) :
    ∃ tr lr ts, s.answerAll is code =
      { s with records := { s.records with trans := tr, localResponses := lr }, taps := ts } := by
  unfold State.answerAll
  induction is generalizing s with
  | nil => exact ⟨_, _, _, rfl⟩
  | cons i is ih =>
    obtain ⟨tr, lr, ts, h⟩ := s.answer_changes i code none
    obtain ⟨tr', lr', ts', h'⟩ := ih (s.answer i code none)
    exact ⟨tr', lr', ts', by rw [List.foldl_cons, h', h]⟩

/-- An answer to the head of its tap's queue (R51). -/
theorem State.answer_head {s : State} {t : Fin 4} {i : Fin 16} {rest : List (Fin 16)} {r : TransRecord}
    (hq : (s.tap t).queue = i :: rest) (hr : s.transAt i = some r) (ht : r.tap = t) (code : Code)
    (data : Option (List Word)) :
    s.answer i code data = { s with
      records := { s.records with
        trans := s.records.trans.set i (some (r.answeredWith code data))
        localResponses := s.records.localResponses ++ [i] }
      taps := s.taps.set t { s.tap t with queue := rest } } := by
  subst ht
  have hq' : s.taps[r.tap.val].queue = i :: rest := hq
  simp [State.answer, hr, State.dequeue, State.modTap, State.setTrans, State.tap, hq']

/-- The answers to all that a tap's queue holds: each record in it answered, in queue order, and the queue empty (R51). -/
theorem State.answerAll_queue {s : State} {t : Fin 4} {l : List (Fin 16)} (hq : (s.tap t).queue = l) (hn : l.Nodup)
    (hr : ∀ i ∈ l, ∃ r, s.transAt i = some r ∧ r.tap = t) (code : Code) :
    ∃ tr : Vector (Option TransRecord) 16,
      s.answerAll l code = { s with
        records := { s.records with trans := tr, localResponses := s.records.localResponses ++ l }
        taps := s.taps.set t { s.tap t with queue := [] } }
      ∧ ∀ j : Fin 16, tr[j] =
        if j ∈ l then (s.transAt j).map (fun r => r.answeredWith code none) else s.transAt j := by
  induction l generalizing s with
  | nil =>
    refine ⟨s.records.trans, ?_, fun j => by simp [State.transAt]⟩
    have he : ({ s.tap t with queue := [] } : Tap) = s.tap t := by rw [← hq]
    rw [he]
    simp [State.answerAll, State.tap]
  | cons i rest ih =>
    obtain ⟨r, hi, ht⟩ := hr i (by simp)
    obtain ⟨hni, hnr⟩ := List.nodup_cons.1 hn
    have ha := State.answer_head hq hi ht code none
    generalize hs : s.answer i code none = u at ha
    have hu : ∀ j, j ≠ i → u.transAt j = s.transAt j := by
      intro j hj
      rw [ha]
      simp [State.transAt, Fin.val_ne_of_ne (Ne.symm hj)]
    have hui : u.transAt i = some (r.answeredWith code none) := by
      rw [ha]
      simp [State.transAt]
    obtain ⟨tr, h1, h2⟩ := ih (s := u) (by rw [ha]; simp [State.tap]) hnr (fun j hj => by
      obtain ⟨q, hq, hqt⟩ := hr j (by simp [hj])
      exact ⟨q, (hu j (fun e => hni (e ▸ hj))).trans hq, hqt⟩)
    refine ⟨tr, ?_, fun j => ?_⟩
    · rw [State.answerAll, List.foldl_cons, hs]
      rw [State.answerAll] at h1
      rw [h1, ha]
      simp [State.tap]
    · rw [h2 j]
      by_cases hj : j = i
      · subst hj
        simp [hni, hui, hi]
      · simp [hj, hu j hj]

/-- Freeing a record changes the transaction records and the banks alone (R60, R61). -/
theorem State.freeRecord_changes (s : State) (i : Fin 16) :
    ∃ tr w, s.freeRecord i = { s with records := { s.records with trans := tr }, windows := w } := by
  unfold State.freeRecord
  cases h : s.transAt i with
  | none => exact ⟨_, _, rfl⟩
  | some r => exact ⟨_, _, rfl⟩

/-! ### Refusals, drain and stalls -/

/-- A refusal of the head changes the classifier, the refusals counter, the upper port and its buffer alone (R38, R41). -/
theorem State.refuseHead_changes (s : State) (r : Refused) :
    ∃ c m u rx, s.refuseHead r = { s with classifier := c, mgmt := m, upper := u, upperRx := rx } := by
  unfold State.refuseHead
  split <;> exact ⟨_, _, _, _, rfl⟩

/-- A pass changes besides these the lower transmit queue (R29, R32, R40). -/
theorem State.passHead_changes (s : State) (p : Down) :
    ∃ c m u rx q, s.passHead p = { s with classifier := c, mgmt := m, upper := u, upperRx := rx, lowerTx := q } := by
  unfold State.passHead
  split
  · split <;> exact ⟨_, _, _, _, _, rfl⟩
  · obtain ⟨c, m, u, rx, h⟩ := s.refuseHead_changes (p.refusal .noRoute)
    exact ⟨c, m, u, rx, _, h⟩

/-- The drain changes the lower transmit queue, the refusal queue and the refusals counter alone (R43). -/
theorem State.drain_changes (s : State) :
    ∃ q c m, s.drain = { s with lowerTx := q, classifier := c, mgmt := m } := ⟨_, _, _, rfl⟩

/-- The end of a stall changes what a pass changes (R40, R41). -/
theorem State.endStall_changes (s : State) :
    ∃ c m u rx q, s.endStall = { s with classifier := c, mgmt := m, upper := u, upperRx := rx, lowerTx := q } := by
  unfold State.endStall
  split
  · exact ⟨_, _, _, _, _, rfl⟩
  · split <;> exact ⟨_, _, _, _, _, rfl⟩
  · split <;> exact ⟨_, _, _, _, _, rfl⟩

/-- What follows a slot freed in either queue (R40, R41, R43). -/
theorem State.settle_changes (s : State) :
    ∃ c m u rx q, s.settle = { s with classifier := c, mgmt := m, upper := u, upperRx := rx, lowerTx := q } := by
  unfold State.settle
  obtain ⟨q, c, m, h⟩ := s.drain_changes
  obtain ⟨c', m', u, rx, q', h'⟩ := s.drain.endStall_changes
  exact ⟨c', m', u, rx, q', by rw [h', h]⟩

/-- With nothing to drain and no stall, nothing follows (R40, R41, R43). -/
theorem State.settle_of_idle {s : State} (hd : s.drainMoves = []) (hs : s.classifier.stall = .none) : s.settle = s := by
  have hdr : s.drain = s := by
    simp [State.drain, hd, State.enterRefusals, addCount]
    rw [Nat.min_eq_left (by omega)]
    simp
  simp [State.settle, hdr, State.endStall, hs]

/-! ### Link losses -/

/-- A lower link loss leaves the session standing: the records, taps, watches, tables and parameters are kept (R177). -/
theorem State.loseLower_changes (s : State) (next : Port → Port) :
    ∃ l rx q c m u urx a, s.loseLower next =
      { s with lower := l, lowerRx := rx, lowerTx := q, classifier := c, mgmt := m, upper := u, upperRx := urx,
               attention := a } := by
  unfold State.loseLower
  obtain ⟨c, m, u, rx, q, h⟩ := ({ s with
      lower := next s.lower.countRetrain
      lowerRx := []
      lowerTx := s.lowerTx.map fun q => { q with drain := true }
      classifier := { s.classifier with stall := s.classifier.stall.atLowerLoss } } : State).settle_changes
  rw [h]
  obtain ⟨a, ha⟩ := State.raiseFlag_changes _ lowerLinkFlag
  exact ⟨_, _, _, _, _, _, _, a, ha⟩

/-! ### Taps -/

/-- The end of an issued record changes the records, the banks and the taps alone (R51, R64). -/
theorem State.endIssued_changes (s : State) (t : Fin 4) (i : Fin 16) (r : TransRecord) (code : Code)
    (data : Option (List Word)) :
    ∃ rs w ts, s.endIssued t i r code data = { s with records := rs, windows := w, taps := ts } := by
  unfold State.endIssued
  split
  · obtain ⟨tr, w, h⟩ := (s.dequeue t i).freeRecord_changes i
    exact ⟨_, _, _, h⟩
  · obtain ⟨tr, lr, ts, h⟩ := s.answer_changes i code data
    exact ⟨_, _, _, h⟩

/-- The completion of a pending disable changes the records and the taps alone (R89). -/
theorem State.completeDisable_changes (s : State) (t : Fin 4) :
    ∃ rs ts, s.completeDisable t = { s with records := rs, taps := ts } := by
  unfold State.completeDisable
  obtain ⟨tr, lr, ts, h⟩ := s.answerAll_changes (s.tap t).queue .tapDisabled
  obtain ⟨m, q, p, h'⟩ := State.finishExecuting_changes
    ((s.answerAll (s.tap t).queue .tapDisabled).modTap t fun p =>
      { p with state := .disabled, disablePending := false }) .tapDisable .ok [one 1]
  exact ⟨_, _, by rw [h', h]; rfl⟩

/-- Leaving ISSUED changes the records and the taps alone (R76, R89). -/
theorem State.leaveIssued_changes (s : State) (t : Fin 4) :
    ∃ rs ts, s.leaveIssued t = { s with records := rs, taps := ts } := by
  unfold State.leaveIssued
  split
  · exact s.completeDisable_changes t
  · exact ⟨_, _, rfl⟩

/-- An issue or a re-issue changes the record and the tap alone (R72, R75, R77). -/
theorem State.present_changes (s : State) (t : Fin 4) (i : Fin 16) (r : TransRecord) :
    ∃ tr ts, s.present t i r = { s with records := { s.records with trans := tr }, taps := ts } := ⟨_, _, rfl⟩

/-- An acknowledge changes the records, the banks and the taps alone (R64, R76, R89). -/
theorem State.takeAck_changes (s : State) (t : Fin 4) (kind : AckKind) (words : List Word) :
    ∃ rs w ts, s.takeAck t kind words = { s with records := rs, windows := w, taps := ts } := by
  unfold State.takeAck
  split
  · exact ⟨_, _, _, rfl⟩
  · rename_i i rest hq
    split
    · exact ⟨_, _, _, rfl⟩
    · rename_i r hr
      dsimp only
      split
      · obtain ⟨tr, w, h⟩ := (((s.closeExchange t).dequeue t i)).freeRecord_changes i
        obtain ⟨rs, ts, h'⟩ := State.leaveIssued_changes (((s.closeExchange t).dequeue t i).freeRecord i) t
        exact ⟨_, _, _, by rw [h', h]; rfl⟩
      · split
        · rename_i code hc
          obtain ⟨tr, lr, ts, h⟩ := (s.closeExchange t).answer_changes i code
            (if r.kind = .read ∧ code = .ok then some words else none)
          obtain ⟨rs, ts', h'⟩ := State.leaveIssued_changes
            ((s.closeExchange t).answer i code (if r.kind = .read ∧ code = .ok then some words else none)) t
          exact ⟨_, _, _, by rw [h', h]; rfl⟩
        · exact ⟨_, _, _, rfl⟩

/-- Freeing the head record of a tap: off the queue, its record FREE, its bank's reference gone (R9, R64). -/
theorem State.freeRecord_head {s : State} {t : Fin 4} {i : Fin 16} {rest : List (Fin 16)} {r : TransRecord}
    (hq : (s.tap t).queue = i :: rest) (hr : s.transAt i = some r) :
    (s.dequeue t i).freeRecord i = { s with
      records := { s.records with trans := s.records.trans.set i none }
      windows := s.windows.setBank r.bank { s.bank r.bank with refs := (s.bank r.bank).refs - 1 }
      taps := s.taps.set t { s.tap t with queue := rest } } := by
  have hr' : (s.dequeue t i).transAt i = some r := hr
  have hq' : s.taps[t.val].queue = i :: rest := hq
  unfold State.freeRecord
  rw [hr']
  simp [State.dequeue, State.modTap, State.setTrans, State.modBank, State.bank, State.tap, hq']

/-- The end of the issued head record: an orphan is freed, any other is answered (R51, R64). -/
theorem State.endIssued_head {s : State} {t : Fin 4} {i : Fin 16} {rest : List (Fin 16)} {r : TransRecord}
    (hq : (s.tap t).queue = i :: rest) (hr : s.transAt i = some r) (ht : r.tap = t) (code : Code)
    (data : Option (List Word)) :
    s.endIssued t i r code data = { s with
      records := { s.records with
        trans := s.records.trans.set i (if r.orphan then none else some (r.answeredWith code data))
        localResponses := s.records.localResponses ++ (if r.orphan then [] else [i]) }
      windows := if r.orphan then s.windows.setBank r.bank { s.bank r.bank with refs := (s.bank r.bank).refs - 1 }
        else s.windows
      taps := s.taps.set t { s.tap t with queue := rest } } := by
  unfold State.endIssued
  split
  · simp [State.freeRecord_head hq hr]
  · rw [State.answer_head hq hr ht]

/-- The operation in progress is ended: answered, or freed if its record is an orphan (R53, R65, R131). -/
theorem State.finishExecuting_head {s : State} {m : Fin 3} {x : MgmtRecord} {op : Op} (h : s.InProgress m x op)
    (code : Code) (result : List Word) :
    s.finishExecuting op code result = { s with records := { s.records with
      mgmt := s.records.mgmt.set m (if x.orphan then none
        else some { x with state := .answered, answer := some { code, result } })
      mgmtQueue := s.records.mgmtQueue.tail
      mgmtResponses := if x.orphan then s.records.mgmtResponses else s.records.mgmtResponses ++ [m] } } := by
  obtain ⟨hq, hx, hs, ho⟩ := h
  obtain ⟨l, hc⟩ := List.head?_eq_some_iff.1 hq
  have e : s.mgmtHead? .executing = some (m, x) := by
    unfold State.mgmtHead?; rw [hc]; simp [hx, hs]
  have he : s.records.mgmtQueue.erase m = s.records.mgmtQueue.tail := by rw [hc]; simp
  unfold State.finishExecuting State.finishMgmt
  rw [e]
  simp only [ho, if_true, hx, ← he]
  split <;> rename_i h1 <;> simp only [h1, State.setMgmt]

/-- An acknowledge that the part looks at changes the records, the banks and the taps alone (R64, R76, R79, R191). -/
theorem State.takeStrobe_changes (s : State) (t : Fin 4) (k : BitVec 2) :
    ∃ rs w ts, s.takeStrobe t k = { s with records := rs, windows := w, taps := ts } := by
  unfold State.takeStrobe
  split
  · exact ⟨_, _, _, rfl⟩
  · split
    · split
      · exact ⟨_, _, _, rfl⟩
      · exact s.takeAck_changes t .done []
    · exact s.takeAck_changes t _ []

/-- The taking of the rises that waited changes the records, the banks and the taps alone (R191). -/
theorem State.takeRises_changes (t : Fin 4) (l : List (BitVec 2)) : ∀ s : State,
    ∃ rs w ts, s.takeRises t l = { s with records := rs, windows := w, taps := ts } := by
  induction l with
  | nil => exact fun s => ⟨_, _, _, rfl⟩
  | cons k rest ih =>
    intro s
    unfold State.takeRises
    split
    · obtain ⟨_, _, _, h⟩ := (s.modTap t fun p => { p with rises := rest }).takeStrobe_changes t k
      obtain ⟨_, _, _, h'⟩ := ih (((s.modTap t fun p => { p with rises := rest })).takeStrobe t k)
      exact ⟨_, _, _, by rw [h', h]; rfl⟩
    · exact ⟨_, _, _, rfl⟩

/-- The release of TtD changes the records, the banks and the taps alone (R191). -/
theorem State.releaseData_changes (s : State) (t : Fin 4) :
    ∃ rs w ts, s.releaseData t = { s with records := rs, windows := w, taps := ts } := by
  unfold State.releaseData
  split
  · obtain ⟨_, _, _, h⟩ := State.takeRises_changes t (s.tap t).rises (s.modTap t fun p => { p with driving := false })
    exact ⟨_, _, _, by rw [h]; rfl⟩
  · exact ⟨_, _, _, rfl⟩

/-! ### Transfers of DONE data -/

/-- The transfers behind a data byte, in the terms of the statements (R191, log 12). -/
theorem Tap.afterByte_eq (p : Tap) (b : Byte) : p.afterByte b = takenBy b p.transfers := by
  unfold Tap.afterByte takenBy
  split <;> rename_i h <;> simp [h, Transfer.take]

/-- A transfer takes exactly as many bytes as it was begun with (R73, R158, R191). -/
theorem Transfer.total_take (x : Transfer) (b : Byte) (h : 0 < x.left) :
    (x.take b).left + (x.take b).got.length = x.left + x.got.length := by
  simp only [Transfer.take, List.length_append, List.length_singleton]
  omega

/-- No transfer that goes on behind a data byte has had its last (R73, R191). -/
theorem Tap.left_pos_of_goingAfter {p : Tap} {b : Byte} {x : Transfer} (h : x ∈ p.goingAfter b) : 0 < x.left := by
  simp only [Tap.goingAfter, List.mem_filter, bne_iff_ne, ne_eq] at h
  omega

/-- Each DONE that ends at a tap that is not ISSUED is late (R79). -/
theorem State.takeDones_late (t : Fin 4) (l : List Transfer) : ∀ s : State, (s.tap t).state ≠ .issued →
    l.foldl (fun c x => c.takeDone t x) s
      = s.modTap t fun p => { p with counters := { p.counters with late := addCount p.counters.late l.length } } := by
  induction l with
  | nil =>
    intro s _
    simp only [List.foldl_nil, List.length_nil, State.modTap, addCount_zero]
    show s = { s with taps := s.taps.set t s.taps[t] }
    simp
  | cons x rest ih =>
    intro s h
    have h1 : s.takeDone t x = s.lateAck t := if_neg h
    rw [List.foldl_cons, h1, ih]
    · simp [State.lateAck, State.modTap, bump, addCount_addCount, Nat.add_comm]
    · simpa [State.lateAck] using h

/-- The DONEs that end with a byte change the records, the banks and the taps alone (R64, R76, R79). -/
theorem State.takeDones_changes (t : Fin 4) (l : List Transfer) : ∀ s : State,
    ∃ rs w ts, l.foldl (fun c x => c.takeDone t x) s = { s with records := rs, windows := w, taps := ts } := by
  induction l with
  | nil => exact fun s => ⟨_, _, _, rfl⟩
  | cons x rest ih =>
    intro s
    have hx : ∃ rs w ts, s.takeDone t x = { s with records := rs, windows := w, taps := ts } := by
      unfold State.takeDone
      split
      · exact s.takeAck_changes t .done _
      · exact ⟨_, _, _, rfl⟩
    obtain ⟨_, _, _, h⟩ := hx
    obtain ⟨_, _, _, h'⟩ := ih (s.takeDone t x)
    exact ⟨_, _, _, by rw [List.foldl_cons, h', h]⟩

/-- What a data byte does at a tap that is not IDLE (R73, R79, R191). -/
theorem State.takeByte_of_ne_idle {s : State} {t : Fin 4} (h : (s.tap t).state ≠ .idle) (b : Byte) :
    s.takeByte t b = ((s.tap t).endedBy b).foldl (fun c x => c.takeDone t x)
      (s.modTap t fun p => { p with transfers := (s.tap t).goingAfter b }) := by
  simp only [State.takeByte, Tap.endedBy, Tap.goingAfter, Tap.afterByte_eq, h, false_and, if_false]

end Sys2Proof.Machine
end

