-- ==== Sys2Proof/Laws/Wire.lean ====
section
/-! SUPPORT. What the packet layouts carry: the fields of each header, completion codes, the framing of an arrival, and check 4 by kind. -/

namespace Sys2Proof.Machine

/-! ### Headers (R188) -/

/-- The fields of a READ or WRITE header. -/
theorem requestHeader (k : BitVec 4) (tag : BitVec 6) (length : BitVec 5) (z : BitVec 17) :
    (k ++ tag ++ length ++ z : BitVec 32).extractLsb' 28 4 = k
      ∧ (k ++ tag ++ length ++ z : BitVec 32).extractLsb' 22 6 = tag
      ∧ (k ++ tag ++ length ++ z : BitVec 32).extractLsb' 17 5 = length
      ∧ (k ++ tag ++ length ++ z : BitVec 32).extractLsb' 0 17 = z := by
  refine ⟨?_, ?_, ?_, ?_⟩ <;> (ext i hi; simp; grind)

/-- The fields of a MGMT header. -/
theorem mgmtHeader (k : BitVec 4) (tag : BitVec 6) (hop n : BitVec 4) (op : BitVec 8) (z : BitVec 6) :
    (k ++ tag ++ hop ++ n ++ op ++ z : BitVec 32).extractLsb' 28 4 = k
      ∧ (k ++ tag ++ hop ++ n ++ op ++ z : BitVec 32).extractLsb' 22 6 = tag
      ∧ (k ++ tag ++ hop ++ n ++ op ++ z : BitVec 32).extractLsb' 18 4 = hop
      ∧ (k ++ tag ++ hop ++ n ++ op ++ z : BitVec 32).extractLsb' 14 4 = n
      ∧ (k ++ tag ++ hop ++ n ++ op ++ z : BitVec 32).extractLsb' 6 8 = op
      ∧ (k ++ tag ++ hop ++ n ++ op ++ z : BitVec 32).extractLsb' 0 6 = z := by
  refine ⟨?_, ?_, ?_, ?_, ?_, ?_⟩ <;> (ext i hi; simp; grind)

/-- The fields of a READ_DONE header. -/
theorem readDoneHeader (k : BitVec 4) (tag code : BitVec 6) (n : BitVec 5) (z : BitVec 11) :
    (k ++ tag ++ code ++ n ++ z : BitVec 32).extractLsb' 28 4 = k
      ∧ (k ++ tag ++ code ++ n ++ z : BitVec 32).extractLsb' 22 6 = tag
      ∧ (k ++ tag ++ code ++ n ++ z : BitVec 32).extractLsb' 16 6 = code
      ∧ (k ++ tag ++ code ++ n ++ z : BitVec 32).extractLsb' 11 5 = n
      ∧ (k ++ tag ++ code ++ n ++ z : BitVec 32).extractLsb' 0 11 = z := by
  refine ⟨?_, ?_, ?_, ?_, ?_⟩ <;> (ext i hi; simp; grind)

/-- The fields of a WRITE_DONE header. -/
theorem writeDoneHeader (k : BitVec 4) (tag code : BitVec 6) (z : BitVec 16) :
    (k ++ tag ++ code ++ z : BitVec 32).extractLsb' 28 4 = k
      ∧ (k ++ tag ++ code ++ z : BitVec 32).extractLsb' 22 6 = tag
      ∧ (k ++ tag ++ code ++ z : BitVec 32).extractLsb' 16 6 = code
      ∧ (k ++ tag ++ code ++ z : BitVec 32).extractLsb' 0 16 = z := by
  refine ⟨?_, ?_, ?_, ?_⟩ <;> (ext i hi; simp; grind)

/-- The fields of a MGMT_DONE header. -/
theorem mgmtDoneHeader (k : BitVec 4) (tag : BitVec 6) (depth : BitVec 4) (code : BitVec 6) (n : BitVec 4)
    (z : BitVec 8) :
    (k ++ tag ++ depth ++ code ++ n ++ z : BitVec 32).extractLsb' 28 4 = k
      ∧ (k ++ tag ++ depth ++ code ++ n ++ z : BitVec 32).extractLsb' 22 6 = tag
      ∧ (k ++ tag ++ depth ++ code ++ n ++ z : BitVec 32).extractLsb' 18 4 = depth
      ∧ (k ++ tag ++ depth ++ code ++ n ++ z : BitVec 32).extractLsb' 12 6 = code
      ∧ (k ++ tag ++ depth ++ code ++ n ++ z : BitVec 32).extractLsb' 8 4 = n
      ∧ (k ++ tag ++ depth ++ code ++ n ++ z : BitVec 32).extractLsb' 0 8 = z := by
  refine ⟨?_, ?_, ?_, ?_, ?_, ?_⟩ <;> (ext i hi; simp; grind)

/-- The fields of an ATTN header. -/
theorem attnHeader (k depth : BitVec 4) (sequence : BitVec 8) (z : BitVec 16) :
    (k ++ depth ++ sequence ++ z : BitVec 32).extractLsb' 28 4 = k
      ∧ (k ++ depth ++ sequence ++ z : BitVec 32).extractLsb' 24 4 = depth
      ∧ (k ++ depth ++ sequence ++ z : BitVec 32).extractLsb' 16 8 = sequence
      ∧ (k ++ depth ++ sequence ++ z : BitVec 32).extractLsb' 0 16 = z := by
  refine ⟨?_, ?_, ?_, ?_⟩ <;> (ext i hi; simp; grind)

/-- A completion code is read back from its value. -/
theorem Code.ofValue_value (c : Code) : Code.ofValue c.value = some c := by cases c <;> rfl

/-! ### Framing (R187) -/

/-- The words and the check sequence of a whole packet are found again. -/
theorem frameRest_whole (rest : List Word) (payload : Word) :
    frameRest (rest.map .word ++ [.stop payload]) = some (rest, payload.extractLsb' 0 16) := by
  induction rest with
  | nil => rfl
  | cons w rest ih => simp [frameRest, ih]

/-- A packet that is interrupted is no whole packet. -/
theorem frameRest_interrupted (rest : List Word) : frameRest (rest.map .word) = none := by
  induction rest with
  | nil => rfl
  | cons w rest ih => simp [frameRest, ih]

theorem check_of_payload (c : BitVec 16) : (c.setWidth 32).extractLsb' 0 16 = c := by
  ext i hi
  simp
  grind

/-- The receipt of a packet in its own words and check sequence depends on its kind and contents alone. -/
theorem receipt_arrival {α : Type} (right wrong : BitVec 4 → Bool) (parse : Word → List Word → Option α) (h : Word)
    (rest : List Word) (p : α) (hw : wrong (h.extractLsb' 28 4) = false) (hr : right (h.extractLsb' 28 4) = true)
    (hp : parse h rest = some p) : receipt right wrong parse (arrival (h :: rest)) = .good p := by
  simp [receipt, arrival, frame, frameRest_whole, check_of_payload, hw, hr, hp]

/-! ### Check 4 by kind (R163) -/

theorem parseDown_read {h : Word} {rest : List Word} (k : h.extractLsb' 28 4 = 0x1#4) :
    parseDown h rest = parseRead h rest := by simp only [parseDown, k]; rfl

theorem parseDown_write {h : Word} {rest : List Word} (k : h.extractLsb' 28 4 = 0x2#4) :
    parseDown h rest = parseWrite h rest := by simp only [parseDown, k]; rfl

theorem parseDown_mgmt {h : Word} {rest : List Word} (k : h.extractLsb' 28 4 = 0x3#4) :
    parseDown h rest = parseMgmt h rest := by simp only [parseDown, k]; rfl

theorem parseUp_readDone {h : Word} {rest : List Word} (k : h.extractLsb' 28 4 = 0x9#4) :
    parseUp h rest = parseReadDone h rest := by simp only [parseUp, k]; rfl

theorem parseUp_writeDone {h : Word} {rest : List Word} (k : h.extractLsb' 28 4 = 0xA#4) :
    parseUp h rest = parseWriteDone h rest := by simp only [parseUp, k]; rfl

theorem parseUp_mgmtDone {h : Word} {rest : List Word} (k : h.extractLsb' 28 4 = 0xB#4) :
    parseUp h rest = parseMgmtDone h rest := by simp only [parseUp, k]; rfl

theorem parseUp_attn {h : Word} {rest : List Word} (k : h.extractLsb' 28 4 = 0xC#4) :
    parseUp h rest = parseAttn h rest := by simp only [parseUp, k]; rfl

end Sys2Proof.Machine
end

