-- ==== Sys2Proof/WellFormed.lean ====
section
/-! DEFINITION. Which commands are well formed: the characters of PACKET_RECEIVED must be those of one packet arrival as R187 gathers them. -/

namespace Sys2Proof

/-- Packet words and then at most one packet end, last. -/
def wordsThenStop : List PacketChar → Bool
  | [] => true
  | [.stop _] => true
  | .word _ :: rest => wordsThenStop rest
  | _ => false

/-- The characters of one arrival (R187): a packet from its start to its end, or to its interruption; a run of packet
words outside a packet, with the packet end that closes it or without; or a packet end alone. -/
def oneArrival : List PacketChar → Bool
  | .start _ :: rest => wordsThenStop rest
  | .word _ :: rest => wordsThenStop rest
  | [.stop _] => true
  | _ => false

/-- A command is well formed when its operands can be presented to the part at once. All operands but the characters
of a packet are bounded by their types. -/
def Instr.wellFormed : Instr → Bool
  | .packetReceived _ chars => oneArrival chars
  | .powerUpReset | .resetAsserted => true
  | .helloReceived _ _ | .creditReceived _ _ | .idleReceived _ _ | .damagedSymbolReceived _ => true
  | .helloPeriod _ | .trainingRestart _ | .silenceTimeout _ | .sendCredit _ => true
  | .classifyPacket | .lowerSend | .arbiterSend => true
  | .examineHead _ | .tapAcknowledge _ _ | .ackTimeout _ | .retryTimerExpiry _ | .waitTimerExpiry _ => true
  | .attentionLineAsserted _ _ | .attentionLineReleased _ _ | .reAnnounce => true
  | .verifyBankComplete | .unknownOperation => true
  | .readIdentity | .readBranchStatus | .readRecord | .readCounters => true
  | .writeEntry | .readEntry | .clearBank | .setMissAction | .verifyBank | .openBank | .selectBank
  | .clearHitCounts => true
  | .tapEnable | .tapDisable | .tapRecover | .setTapLines | .readTapStatus => true
  | .setWatch | .disarmWatch | .readWatch | .releaseHold | .discardHold | .readHeldRequest => true
  | .readAttention | .clearAttention | .setAttentionEnables | .acknowledgeAttention => true
  | .setParameter | .readParameter | .branchReset => true

end Sys2Proof
end

