-- ==== Sys2Proof/Tests/Slice0.lean ====
section
/-! SUPPORT. Tests of single steps, many of them rows of the spec's worked examples, and for each statement with hypotheses a state and operands that meet them. -/

open Sys2Proof Sys2Proof.Machine

namespace Sys2Proof.Tests

/-! ### Small states -/

/-- The state a command leads to. -/
def after (c : Instr) (s : State) : State := match exec c s with | .next t => t | _ => s

/-- A port in UP, with credit 8 and nothing owed. -/
def linked (p : Port) : Port :=
  { p with state := .up, credit := 8, capacity := 8, helloTimer := none, trainTimer := none, silence := some 64 }

/-- A part whose two links are UP. -/
def up : State :=
  { State.reset with
    upper := linked .resetUpper, lower := linked .resetLower
    mgmt := { State.reset.mgmt with params := { State.reset.mgmt.params with lowerEnable := true } } }

/-- Entry 0 of the worked example of section 1.7. -/
def entry0 : Window :=
  { base := 0x00100000, sizeExponent := 8, action := .claim, tap := some 1, localBase := some 0x000400,
    permitsRead := true, permitsWrite := false, maxLength := some 4, hits := 0 }

/-- Entry 1 of that example. -/
def entry1 : Window :=
  { base := 0x00100000, sizeExponent := 12, action := .claim, tap := some 0, localBase := some 0x010000,
    permitsRead := true, permitsWrite := true, maxLength := none, hits := 0 }

/-- Entry 3 of that example, with its action as given. -/
def entry3 (a : Action) : Window :=
  { base := 0, sizeExponent := 24, action := a, tap := none, localBase := none, permitsRead := true,
    permitsWrite := true, maxLength := none, hits := 0 }

/-- Bank A of that example, ACTIVE, entry 3 with its action as given. -/
def bankA (a : Action) (m : MissAction) (refs : Nat) : Bank :=
  { entries := ((Bank.atReset.entries.set 0 (some entry0)).set 1 (some entry1)).set 3 (some (entry3 a))
    missAction := m, state := .active, refs := refs }

/-- A part with bank A active and every tap IDLE. -/
def routed (a : Action) (m : MissAction) : State :=
  { up with windows := { bankA := bankA a m 0, bankB := .atReset, selector := some .A }
            taps := .replicate 4 { Tap.atReset with state := .idle } }

def read (address : Word) (length : Nat) (tag : Tag) : Request :=
  { kind := .read, tag, address, length, data := [], reserved := 0 }

def write (address : Word) (data : List Word) (tag : Tag) : Request :=
  { kind := .write, tag, address, length := data.length, data, reserved := 0 }

/-- A packet at the head of the upper receive buffer. -/
def arrived (s : State) (p : Down) : State := { s with upperRx := [p] }

/-- A management request as it waits. -/
def asking (op : Op) (ws : List Word) : MgmtRecord :=
  { state := .waiting, tag := 33, operation := op.code, operands := ws, answer := none, orphan := false }

/-- Management record 0 holds r at the head of the management queue. -/
def withMgmt (s : State) (r : MgmtRecord) : State :=
  { s with records := { s.records with mgmt := s.records.mgmt.set 0 (some r), mgmtQueue := [0] } }

/-- Management record 0 holds the operation, WAITING. -/
def ask (s : State) (op : Op) (ws : List Word) : State := withMgmt s (asking op ws)

/-- The state holds the operation ready to begin, and satisfies a further condition. -/
abbrev Asked (s : State) (op : Op) (ws : List Word) (p : Prop) : Prop :=
  (ask s op ws).Ready 0 (asking op ws) op ws ∧ p

/-- The answer in management record 0. -/
def answerOf (s : State) : Option MgmtAnswer := (s.mgmtAt 0).bind fun r => r.answer

/-- The answer that beginning the operation gives. -/
def answered (s : State) (op : Op) (ws : List Word) : Option MgmtAnswer := answerOf (after op.command (ask s op ws))

/-- A record claimed through entry 1 of bank A, for tap 0. -/
def claimed (st : TransState) (kind : Kind) (tag : Tag) : TransRecord :=
  { state := st, tag, kind, address := 0x00100200, length := 1, bank := .A, entry := 1, tap := 0,
    writeData := if kind = .write then some [7] else none, readData := none, code := none, retryCount := 0,
    hold := false, waitRemaining := none, orphan := false }

/-- What is presented for it. -/
def presentedFor (kind : Kind) : TapRequest :=
  { kind, localAddress := 0x010200, length := 1, data := if kind = .write then [7] else [] }

/-- Tap 0 in a state, its timer run out, records 0 and 1 in its queue. -/
def busyTap (st : TapState) (kind : Kind) : Tap :=
  { Tap.atReset with
    state := st, queue := [0, 1], ackTimer := if st = .issued then some 0 else none
    retryTimer := if st = .retryWait then some 0 else none
    presented := if st = .issued then some (presentedFor kind) else none }

/-- Tap 0 in a state with record 0 at its head and record 1 QUEUED behind it, its wait run out; the other taps are
DISABLED. -/
def busy (st : TapState) (rst : TransState) (kind : Kind) : State :=
  { up with
    windows := { bankA := bankA .reject .pass 2, bankB := .atReset, selector := some .A }
    taps := (Vector.replicate 4 Tap.atReset).set 0 (busyTap st kind)
    records := { up.records with
      trans := (up.records.trans.set 0 (some (claimed rst kind 4))).set 1
        (some { claimed .queued .read 6 with waitRemaining := some 0 }) } }

/-- The same with the head record changed. -/
def busyWith (st : TapState) (rst : TransState) (kind : Kind) (f : TransRecord → TransRecord) : State :=
  (busy st rst kind).setTrans 0 (some (f (claimed rst kind 4)))

/-- Tap 0 ISSUED with a disable pending, the Tap Disable in progress. -/
def disabling (kind : Kind) : State :=
  withMgmt ((busy .issued .issued kind).modTap 0 fun p => { p with disablePending := true })
    { asking .tapDisable [0] with state := .executing }

/-- A pass in the lower transmit queue. -/
def pass (drain : Bool) : QueuedPass := { packet := .request (read 0x02000000 1 5), drain }

def refusal : Refused := { kind := .readDone, tag := 9, code := .refused }

/-- A part with what is given in its lower transmit queue, refusal queue and stall, and one packet in its upper receive
buffer. -/
def queued (tx : List QueuedPass) (refusals : List Refused) (stall : Stall) : State :=
  { up with lowerTx := tx, upperRx := [.request (read 0x02000000 1 20)]
            classifier := { stall, paused := false, refusals } }

/-! ### Well-formedness -/

theorem test_empty_arrival_refused (p : PortId) : (Instr.packetReceived p []).wellFormed = false := rfl

theorem test_start_after_word_refused (p : PortId) (v w : Word) :
    (Instr.packetReceived p [.word v, .start w]).wellFormed = false := rfl

theorem test_word_after_end_refused (p : PortId) (v w : Word) :
    (Instr.packetReceived p [.stop v, .word w]).wellFormed = false := rfl

theorem test_whole_packet_wellFormed (p : PortId) (u v w : Word) :
    (Instr.packetReceived p [.start u, .word v, .stop w]).wellFormed = true := rfl

/-! ### Encodings of the line and of packets, written out from R187 and R188 -/

theorem test_check_sequence_zero : checkSequence [0] = 0x84C0 := by decide +kernel

theorem test_check_sequence_digits : checkSequence [0x31323334, 0x35363738] = 0xA12B := by decide +kernel

theorem test_idle_character : idleChar.payload = 0x00000016 := by decide +kernel

theorem test_credit_character : LineItem.credit.chars.map LineChar.payload = [0x0000003A] := by decide +kernel

theorem test_hello_no : (LineItem.hello false).chars.map LineChar.payload = [0x00000814] := by decide +kernel

theorem test_hello_yes : (LineItem.hello true).chars.map LineChar.payload = [0x00001864] := by decide +kernel

/-- READ: kind 1, tag 17 in bits 27–22, length 4 in bits 21–17. -/
theorem test_read_words : (Down.request (read 0x00400030 4 17)).words = [0x14480000, 0x00400030] := by decide +kernel

/-- MGMT: kind 3, tag 30, hop 2 in bits 21–18, operand count 1 in bits 17–14, operation 0x15 in bits 13–6. -/
theorem test_mgmt_words :
    (Down.mgmt { hop := 2, tag := 30, operation := 0x15, operands := [1], reserved := 0 }).words = [0x37884540, 1] := by
  decide +kernel

/-- MGMT_DONE: kind B, tag 30, depth 1 in bits 21–18, code 5 in bits 17–12, result count 0 in bits 11–8. -/
theorem test_mgmtDone_words : (Up.mgmtDone 30 1 .noRoute [] 0).words = [0xB7845000] := by decide +kernel

/-- ATTN: kind C, depth 1 in bits 27–24, sequence 7 in bits 23–16. -/
theorem test_attn_words : (Up.attn 1 7 0x840 0x40 0).words = [0xC1070000, 0x840, 0x40] := by decide +kernel

/-- A WRITE's bytes on TtD: bit 7 set and length minus 1, the local address, the data, each most significant first. -/
theorem test_tap_bytes :
    ({ kind := .write, localAddress := 0x030120, length := 2, data := [0x01020304, 0x05060708] } : TapRequest).bytes
      = [0x81, 0x03, 0x01, 0x20, 1, 2, 3, 4, 5, 6, 7, 8] := by decide +kernel

theorem test_no_row_has_bits (n w : Nat) : decodeTableWord n w = none := rfl

/-! ### Rows of the worked examples, one step each -/

/-- Section 1.7: the lookup of five of its six requests. -/
theorem test_lookup :
    [0x00100010, 0x00100200, 0x00800000, 0x02000000, 0x001000FE].map (bankA .reject .pass 0).match?
      = [some 0, some 1, some 3, none, some 0] := by decide +kernel

/-- Section 1.7: a WRITE that entry 0 does not permit is DENIED, though entry 1 would permit it. -/
theorem test_claim_denied :
    (after .classifyPacket (arrived (routed .reject .pass) (.request (write 0x00100010 [1] 2)))).classifier.refusals
      = [{ kind := .writeDone, tag := 2, code := .denied }] := by decide +kernel

/-- Section 1.7: a READ that starts in entry 0 and ends past it. -/
theorem test_claim_boundary :
    (after .classifyPacket (arrived (routed .reject .pass) (.request (read 0x001000FE 4 2)))).classifier.refusals
      = [{ kind := .readDone, tag := 2, code := .boundary }] := by decide +kernel

/-- Section 1.7: the local address at issue, 0x000400 + 0x10. -/
theorem test_local_address :
    (routed .reject .pass).localAddress { claimed .queued .read 1 with address := 0x00100010, entry := 0, tap := 1 }
      = 0x000410 := by decide +kernel

/-- Section 1.8: an entry of size 0x4000 at 0x2000 fails verification as BASE_MISALIGNED. -/
theorem test_verify_base :
    ({ entry3 .reject with base := 0x00002000, sizeExponent := 14 } : Window).verify = some .baseMisaligned := by
  decide +kernel

/-- Section 2.8: a lower link loss with eight passes queued and six refusals waiting moves two of them. -/
theorem test_drain :
    let t := after (.silenceTimeout .lower)
      (let s := queued (.replicate 8 (pass false)) (.replicate 6 refusal) .none
       { s with lower := { s.lower with silence := some 0 } })
    t.lowerTx.length = 6 ∧ t.draining = true ∧ t.classifier.refusals.length = 8 ∧ t.mgmt.refusals = 2
      ∧ t.attention.flagsSet = 0x10000 := by decide +kernel

/-- Section 4.11: with a disable pending a RETRY answers the queue TAP_DISABLED, and the Tap Disable OK, pending. -/
theorem test_disable_by_retry :
    let t := after (.tapAcknowledge 0 (.strobe 2)) (disabling .read)
    (t.tap 0).state = .disabled ∧ t.records.localResponses = [0, 1]
      ∧ (t.transAt 0).map TransRecord.code = some (some .tapDisabled)
      ∧ answerOf t = some { code := .ok, result := [1] } := by decide +kernel

/-- Section 5.8: a held WRITE's header, and the end of its data. -/
theorem test_held_request :
    let s := busy .held .held .write
    answered s .readHeldRequest [0, 0, 0] = some { code := .ok, result := [0, 4, 1, 1, 0x00100200, 0x010200] }
      ∧ answered s .readHeldRequest [0, 1, 0] = some { code := .ok, result := [7] }
      ∧ answered s .readHeldRequest [0, 1, 1] = some { code := .badOperand, result := [] } := by decide +kernel

/-- Section 5.8: a clear-on-read is suppressed while a tap is HELD. -/
theorem test_suppressed :
    answered (busy .held .held .write) .readCounters [2, 1] = some { code := .ok, result := [0, 0, 0, 0, 0, 2] } := by
  decide +kernel

/-- Section 6.6: the acknowledge of 7 opens sequence 8 for the flag that is set, enabled and unannounced. -/
theorem test_acknowledge_announces :
    let s := { up with attention := { flagsSet := 0x00801, flagsEnabled := 0x10840, flagsAnnounced := 0, sequence := 7
                                      newList := some 0x40, timer := some 5, packet := none } }
    answered s .acknowledgeAttention [7] = some { code := .ok, result := [8, 1] }
      ∧ answered s .acknowledgeAttention [6] = some { code := .staleSequence, result := [] }
      ∧ (after .acknowledgeAttention (ask s .acknowledgeAttention [7])).attention.packet
          = some { sequence := 8, setList := 0x800, newList := 0x800 } := by decide +kernel

/-- Section 6.7: an upper link loss in ANNOUNCED advances the sequence and unannounces. -/
theorem test_attention_across_loss :
    (Attention.atUpperLoss { flagsSet := 0x10000, flagsEnabled := 0x18080, flagsAnnounced := 0x10000, sequence := 20
                             newList := some 0x10000, timer := none, packet := none })
      = { flagsSet := 0x10000, flagsEnabled := 0x18080, flagsAnnounced := 0, sequence := 21, newList := none
          timer := none, packet := none } := by decide +kernel

/-- Section 8.7: an ATTN with depth 15 passes the receipt checks and is discarded as a depth overflow. -/
theorem test_depth_overflow :
    let t := after (.packetReceived .lower (arrival (Up.attn 15 4 1 1 0).words)) up
    t.lower.counters.received = 1 ∧ t.mgmt.depthOverflows = 1 ∧ t.lowerRx = [] ∧ t.lower.owed = 1 := by
  decide +kernel

/-- Section 9.9: the arbiter, its pointer at the local response queue, with one packet in every source. -/
theorem test_arbiter_round :
    let s := { up with
      pointer := .localResponses, lowerRx := [.mgmtDone 1 0 .ok [] 0]
      classifier := { up.classifier with refusals := [refusal] }
      records := { up.records with
        localResponses := [3], mgmtResponses := [1]
        trans := up.records.trans.set 3 (some { claimed .answered .write 8 with code := some .ok })
        mgmt := up.records.mgmt.set 1 (some { asking .readIdentity [] with
          state := .answered, answer := some { code := .ok, result := [] } }) } }
    (after .arbiterSend s).upper.tx = .up (.writeDone 8 .ok 0) ∧ (after .arbiterSend s).pointer = .refusals
      ∧ (after .arbiterSend { s with pointer := .lowerRx }).upper.tx = .up (.mgmtDone 1 1 .ok [] 0)
      ∧ (after .arbiterSend { s with pointer := .mgmtResponses }).upper.tx = .up (.mgmtDone 33 0 .ok [] 0) := by
  decide +kernel

/-! ### Answers of the reading operations -/

theorem test_identity :
    answered up .readIdentity [] = some { code := .ok, result := [0x0B7, 0x416, 1, 4, 16, 32] } := by decide +kernel

/-- Lower port UP with its enable on, in word 4; the record itself EXECUTING, in word 7. -/
theorem test_branch_status :
    answered up .readBranchStatus [] = some { code := .ok, result := [2, 0, 0, 6, 0, 0, 2, 0] } := by decide +kernel

theorem test_read_entry :
    answered (routed .reject .pass) .readEntry [0, 0]
      = some { code := .ok, result := [0xF, 0x00100000, 0x4288, 0x400, 0] } := by decide +kernel

theorem test_read_record :
    answered (busy .issued .issued .write) .readRecord [0]
      = some { code := .ok, result := [0x00100622, 0x00100200, 0x010200, 0x80, 0, 0, 0, 0] }
    ∧ answered up .readRecord [15] = some { code := .ok, result := [0] } := by decide +kernel

theorem test_read_watch :
    answered up .readWatch [1] = some { code := .ok, result := [0x26, 0, 0, 0] } := by decide +kernel

theorem test_parameters :
    [0, 4, 5, 6, 7, 8, 9].map (fun n => answered up .readParameter [n])
      = [1000, 3, 50, 0, 0, 0, 1].map fun v => some { code := .ok, result := [v] } := by decide +kernel

/-- Set Tap Lines sets line 0, and answers with both levels. -/
theorem test_set_tap_lines :
    answered up .setTapLines [3, 1, 1] = some { code := .ok, result := [1] } := by decide +kernel

theorem test_unknown_operation :
    answerOf (after .unknownOperation (withMgmt up { asking .branchReset [] with operation := 0x7F }))
      = some { code := .badOperation, result := [] } := by decide +kernel

theorem test_operand_counts :
    (Op.catalogue.map Op.operandCount).foldl (· + ·) 0 = 41 ∧ (Op.catalogue.map Op.code).Nodup := by decide +kernel

/-! ### States and operands that meet the hypotheses of the statements, in their order -/

theorem test_meets_EmptyQueueCountsOneMicrosecond :
    (up.pending = [] ∧ up.resetLow = false)
      ∧ (after .resetAsserted up).pending = [] ∧ (after .resetAsserted up).resetLow = true := by decide +kernel

theorem test_meets_ResetAssertedLowersTheOutputs :
    (after .resetAsserted up).resetLow = true ∧ Instr.arbiterSend ≠ .powerUpReset ∧ Instr.arbiterSend ≠ .resetAsserted
      ∧ (after .resetAsserted up).pending = [] := by decide +kernel

theorem test_meets_EveryCommandHasANextState :
    up.beginnable? = none
      ∧ (ask up .readIdentity []).beginnable? = some (0, asking .readIdentity [])
      ∧ (asking .readIdentity []).operation ≠ Op.branchReset.code := by decide +kernel

/-- A packet of kind 0, one of an upward kind, one of a downward kind, and one whose check sequence is wrong. -/
def kindless : List PacketChar := arrival [0]
def upward : List PacketChar := arrival (Up.mgmtDone 30 14 .ok [] 0).words
def downward : List PacketChar := arrival (Down.request (read 0x02000000 1 5)).words
def corrupted : List PacketChar := [.start 0xB0000000, .stop 0]

theorem test_meets_UpperPacketIsKeptOrCounted :
    State.reset.upper.state ≠ .up
      ∧ (up.upper.state = .up ∧ 8 ≤ (List.replicate 8 (Down.request (read 0 1 1))).length)
      ∧ (List.replicate 7 (Down.request (read 0 1 1))).length < 8
      ∧ receiptUpper downward = .good (.request (read 0x02000000 1 5))
      ∧ receiptUpper kindless = .malformed ∧ receiptUpper upward = .misdirected
      ∧ receiptUpper corrupted = .checkFailure ∧ ({ up.upper with failRun := 2 } : Port).failRun < 3 := by
  decide +kernel

theorem test_meets_LowerPacketIsRelayedOrCounted :
    State.reset.lower.state ≠ .up ∧ (up.lower.state = .up ∧ up.upper.state = .up)
      ∧ 8 ≤ (List.replicate 8 (Up.writeDone 1 .ok 0)).length
      ∧ (receiptLower upward = .good (.mgmtDone 30 14 .ok [] 0) ∧ (Up.mgmtDone 30 14 .ok [] 0).depthFull = false)
      ∧ (receiptLower (arrival (Up.attn 15 4 1 1 0).words) = .good (.attn 15 4 1 1 0)
          ∧ (Up.attn 15 4 1 1 0).depthFull = true)
      ∧ ({ up with upper := .resetUpper } : State).upper.state ≠ .up
      ∧ receiptLower kindless = .malformed ∧ receiptLower downward = .misdirected
      ∧ receiptLower corrupted = .checkFailure ∧ ({ up.lower with failRun := 2 } : Port).failRun < 3 := by
  decide +kernel

/-- The kinds at the ends of each range of the statement, each with a right check sequence and with a wrong one. -/
theorem test_meets_ReceiptChecksComeInOrder :
    [0, 4, 8, 13, 15, 9, 12, 1, 3].all (fun k : Nat =>
      let header : Word := BitVec.ofNat 4 k ++ 0#28
      let payload : Word := (checkSequence [header]).setWidth 32
      decide ((header.extractLsb' 28 4).toNat = k ∧ payload.extractLsb' 0 16 = checkSequence [header]
        ∧ (payload ^^^ 1).extractLsb' 0 16 ≠ checkSequence [header])) = true := by decide +kernel

theorem test_meets_PacketRoundTrip :
    (Down.request (read 0 1 0)).inRange ∧ (Down.request (write 0 (.replicate 16 7) 0)).inRange
      ∧ (Down.mgmt { hop := 15, tag := 63, operation := 0, operands := .replicate 8 1, reserved := 63 }).inRange
      ∧ (Up.readDone 0 .ok (.replicate 16 1) 0).inRange ∧ (Up.readDone 0 .staleSequence [] 0).inRange
      ∧ (Up.writeDone 0 .ok 0).inRange ∧ (Up.mgmtDone 0 15 .ok (.replicate 8 1) 0).inRange
      ∧ (Up.attn 15 255 0 1 0).inRange := by
  simp only [Down.inRange, Up.inRange]
  decide +kernel

/-- A HELLO with a capacity and a ready flag. -/
def hello (capacity : BitVec 4) (ready : Bool) : Word :=
  (symbolChar helloType (0#19 ++ BitVec.ofBool ready ++ capacity : BitVec 24)).payload

/-- A port in TRAINING that lacks only the third good HELLO, and one that lacks only its own ready HELLO. -/
def trainingTwo : Port := { Port.resetUpper with run := 2, readySeen := true, readySent := true, trainTimer := some 0 }
def trainingSend : Port :=
  { Port.resetUpper with run := 3, reachedThree := true, readySeen := true, helloTimer := some 0 }

theorem test_meets_TrainingBringsAPortUp :
    trainingTwo.state = .training ∧ trainingSend.state = .training
      ∧ (helloIntact (hello 1 true) = true ∧ helloCapacity (hello 1 true) = 1)
      ∧ ((trainingTwo.reachedThree || decide (3 ≤ trainingTwo.run + 1)) && trainingTwo.readySeen
          && trainingTwo.readySent) = true
      ∧ (Port.resetUpper.state = .training ∧ (Port.resetUpper.reachedThree && Port.resetUpper.readySeen
          && Port.resetUpper.readySent) = false)
      ∧ (trainingSend.helloTimer = some 0 ∧ (trainingSend.reachedThree && trainingSend.readySeen
          && (trainingSend.readySent || trainingSend.reachedThree)) = true)
      ∧ (helloIntact (hello 0 false) = true ∧ helloCapacity (hello 0 false) = 0)
      ∧ trainingTwo.trainTimer = some 0 := by decide +kernel

/-- Section 6.7: the flags that wait are announced as the upper port enters UP. -/
theorem test_announced_at_entry_to_up :
    let s := { State.reset with
      upper := trainingTwo, attention := { up.attention with flagsSet := 0x10000, flagsEnabled := 0x18080, sequence := 21 } }
    let t := after (.helloReceived .upper (hello 8 true)) s
    t.upper.state = .up ∧ t.attention = s.announced .up s.attention ∧ t.attention.newList = some 0x10000
      ∧ t.attention.packet = some { sequence := 21, setList := 0x10000, newList := 0x10000 } := by decide +kernel

theorem test_meets_DamagedSymbolIsCounted :
    helloIntact 0x00000815 = false ∧ creditIntact 0x0000013A = false ∧ idleIntact 0x00000017 = false
      ∧ (State.reset.port .upper).state = .training ∧ (up.port .lower).state = .up
      ∧ (State.reset.port .lower).state = .down := by decide +kernel

theorem test_meets_SymbolsOfALinkThatIsUp :
    creditIntact 0x0000003A = true ∧ idleIntact 0x00000016 = true
      ∧ (helloIntact (hello 8 true) = true ∧ helloReady (hello 8 true) = true)
      ∧ (up.upper.state = .up ∧ ({ up.upper with credit := 7 } : Port).credit < up.upper.capacity
          ∧ up.upper.capacity ≤ up.upper.credit)
      ∧ State.reset.lower.state = .down ∧ 0 < ({ up.upper with owed := 1 } : Port).owed := by decide +kernel

theorem test_meets_LinkLossIsOneEffect :
    up.resetLow = false ∧ (up.port .upper).state = .up
      ∧ (helloIntact (hello 8 false) = true ∧ helloReady (hello 8 false) = false)
      ∧ (let s := ({ up with lowerRx := .replicate 7 (.writeDone 1 .ok 0) } : State).setPort .lower
           { up.lower with owed := 7, failRun := 3 }
         s.rxLength .lower < 8 ∧ (s.port .lower).owed < 8 ∧ (s.port .lower).failRun = 3)
      ∧ (let s := up.setPort .upper { up.upper with owed := 8, failRun := 3 }
         s.rxLength .upper < 8 ∧ (s.port .upper).owed = 8 ∧ (s.port .upper).failRun = 3)
      ∧ receiptLower corrupted = .checkFailure ∧ receiptUpper corrupted = .checkFailure := by decide +kernel

/-- A silent upper link, with a tap exchange and an operation in progress. -/
def losing : State :=
  { disabling .read with
    upper := { up.upper with silence := some 0 }, lowerRx := [.writeDone 1 .ok 0], lower := { up.lower with owed := 7 } }

theorem test_meets_UpperLinkLossEndsTheSession :
    losing.RefsAgree ∧ losing.RecordsPlaced ∧ losing.MgmtPlaced
      ∧ (losing.resetLow = false ∧ losing.upper.state = .up ∧ losing.upper.silence = some 0
        ∧ losing.mgmt.resetPending = false ∧ losing.lower.state = .up
        ∧ losing.lower.owed + losing.lowerRx.length ≤ 8 ∧ State.reset.lower.state ≠ .up) :=
  ⟨fun b => (State.checksTables_bank (by decide +kernel) b).2.1,
    State.recordsPlaced_of_checks (by decide +kernel), State.mgmtPlaced_of_checks (by decide +kernel),
    by decide +kernel⟩

theorem test_meets_UpperLinkLossTakesThePendingReset :
    let s := { losing with mgmt := { losing.mgmt with resetPending := true } }
    s.resetLow = false ∧ s.upper.state = .up ∧ s.upper.silence = some 0 ∧ s.mgmt.resetPending = true := by
  decide +kernel

/-- A part that stalls on a full lower transmit queue as in section 2.8, its lower link silent. -/
def stalling : State :=
  let s := queued (.replicate 8 (pass false)) (.replicate 6 refusal) (.onLower (.request (read 0x02000000 1 20)))
  { s with lower := { s.lower with silence := some 0 } }

theorem test_meets_LowerLinkLossDrains :
    stalling.QueuesAgree
      ∧ stalling.resetLow = false ∧ stalling.lower.state = .up ∧ stalling.lower.silence = some 0 :=
  ⟨State.queuesAgree_of_checks (by decide +kernel), by decide +kernel⟩

theorem test_meets_LowerSendTakesTheHead :
    (let s := queued [pass true] (.replicate 8 refusal) .none
     s.QueuesAgree ∧ s.MaySend .lower ∧ s.lowerTx = [pass true])
      ∧ (let s := queued [pass false] (.replicate 8 refusal) (.onRefusal refusal)
         s.QueuesAgree ∧ s.MaySend .lower ∧ s.lowerTx = [pass false])
      ∧ stalling.QueuesAgree ∧ stalling.MaySend .lower ∧ stalling.lowerTx = pass false :: .replicate 7 (pass false)
      ∧ stalling.classifier.stall = .onLower (.request (read 0x02000000 1 20)) ∧ stalling.upper.state = .up := by
  refine ⟨⟨State.queuesAgree_of_checks (by decide +kernel), by decide +kernel, rfl⟩,
    ⟨State.queuesAgree_of_checks (by decide +kernel), by decide +kernel, rfl⟩,
    State.queuesAgree_of_checks (by decide +kernel), by decide +kernel⟩

theorem test_meets_ArbiterOrder :
    (let s := { up with attention := { up.attention with packet := some { sequence := 0, setList := 1, newList := 1 } } }
     s.MaySend .upper ∧ s.attention.packet = some { sequence := 0, setList := 1, newList := 1 })
      ∧ (let s := { up with lowerRx := [.writeDone 1 .ok 0] }
         s.waiting .lowerRx = true ∧ [Source.mgmtResponses, .localResponses, .refusals].all (!s.waiting ·) = true)
      ∧ (let s := { up with lowerRx := [.writeDone 1 .ok 0] }
         [Source.lowerRx, .refusals, .localResponses, .mgmtResponses].all
           (fun p => ({ s with pointer := p } : State).chosen? == some .lowerRx) = true)
      ∧ up.chosen? = none ∧ up.attention.packet = none := by decide +kernel

/-- An answered record 0, its answer waiting. -/
def answeredRecord (kind : Kind) : State :=
  let s := busy .idle .queued kind
  { s with records := { s.records with
      localResponses := [0]
      trans := s.records.trans.set 0 (some { claimed .answered kind 4 with code := some .ok, readData := some [5] }) } }

/-- An answered management record 0, its answer waiting. -/
def answeredMgmt (op : Op) (code : Code) (pending : Bool) : State :=
  { up with
    mgmt := { up.mgmt with resetPending := pending }
    records := { up.records with
      mgmtResponses := [0]
      mgmt := up.records.mgmt.set 0 (some { asking op [] with
        state := .answered, answer := some { code := code, result := [] } }) } }

theorem test_meets_ArbiterSendsAnswersAndFreesRecords :
    [Kind.read, .write].all (fun k => decide ((answeredRecord k).MaySend .upper
        ∧ (answeredRecord k).chosen? = some .localResponses ∧ (answeredRecord k).records.localResponses = [0]
        ∧ (answeredRecord k).transAt 0
            = some { claimed .answered k 4 with code := some .ok, readData := some [5] })) = true
      ∧ [answeredMgmt .branchReset .ok false, answeredMgmt .readIdentity .ok true,
          answeredMgmt .branchReset .badOperand true].all (fun s => decide (s.MaySend .upper
        ∧ s.attention.packet = none ∧ s.chosen? = some .mgmtResponses ∧ s.records.mgmtResponses = [0]
        ∧ ((s.mgmtAt 0).bind fun r => r.answer).isSome
        ∧ (s.mgmt.resetPending = false ∨ ((s.mgmtAt 0).map fun r => r.operation) ≠ some 0x7E
            ∨ ((s.mgmtAt 0).bind fun r => r.answer.map fun a => a.code) ≠ some .ok))) = true := by decide +kernel

theorem test_meets_BranchResetTakesEffectAsItsAnswerLeaves :
    let s := answeredMgmt .branchReset .ok true
    s.MaySend .upper ∧ s.attention.packet = none ∧ s.chosen? = some .mgmtResponses ∧ s.records.mgmtResponses = [0]
      ∧ s.mgmtAt 0 = some { asking .branchReset [] with state := .answered, answer := some { code := .ok, result := [] } }
      ∧ (asking .branchReset []).operation = 0x7E ∧ s.mgmt.resetPending = true := by decide +kernel

theorem test_meets_ArbiterSendsRefusalsAndRelays :
    [queued [] [refusal] .none, queued [pass false] (.replicate 8 refusal) (.onRefusal refusal),
      queued [pass true] (.replicate 8 refusal) (.onRefusal refusal),
      queued (pass true :: .replicate 7 (pass false)) (.replicate 8 refusal) (.onLower (.request (read 0 1 1)))].all
      (fun s => s.checksQueues && decide (s.MaySend .upper ∧ s.attention.packet = none
        ∧ s.chosen? = some .refusals ∧ s.classifier.refusals.head? = some refusal)) = true
      ∧ (let s := { up with lowerRx := [.mgmtDone 1 14 .ok [] 0] }
         s.checksQueues = true ∧ s.MaySend .upper ∧ s.chosen? = some .lowerRx
           ∧ (Up.mgmtDone 1 14 .ok [] 0).depthFull = false ∧ s.lower.state = .up) := by decide +kernel

/-- What every statement about the classifier asks of a state with p at the head. -/
abbrev Takes (s : State) (p : Down) : Prop :=
  s.resetLow = false ∧ s.upper.state = .up ∧ s.classifier.paused = false ∧ s.classifier.stall = .none
    ∧ s.upperRx.head? = some p

/-- The refusal queue with n refusals in it. -/
def withRefusals (s : State) (n : Nat) : State :=
  { s with classifier := { s.classifier with refusals := .replicate n refusal } }

theorem test_meets_PassesGoDownOrAreRefused :
    (let m : MgmtPacket := { hop := 1, tag := 3, operation := 1, operands := [], reserved := 0 }
     Takes (arrived up (.mgmt m)) (.mgmt m) ∧ m.hop ≠ 0)
      ∧ (Takes (arrived up (.request (read 0 1 1))) (.request (read 0 1 1)) ∧ up.windows.selector = none)
      ∧ (let s := arrived (routed .pass .pass) (.request (read 0x02000000 1 5))
         Takes s (.request (read 0x02000000 1 5)) ∧ s.windows.selector = some .A
           ∧ (s.bank .A).match? 0x02000000 = none ∧ (s.bank .A).missAction = .pass)
      ∧ (let s := arrived (routed .pass .pass) (.request (read 0x00FFFFFF 1 5))
         Takes s (.request (read 0x00FFFFFF 1 5)) ∧ (s.bank .A).match? 0x00FFFFFF = some 3
           ∧ (s.bank .A).entries[(3 : Fin 32)] = some (entry3 .pass))
      ∧ (up.lower.state = .up ∧ (List.replicate 7 (pass false)).length < 8
          ∧ 8 ≤ (List.replicate 8 (pass false)).length)
      ∧ State.reset.lower.state ≠ .up ∧ (withRefusals up 7).canRefuse = true
      ∧ (withRefusals up 8).canRefuse = false := by decide +kernel

theorem test_meets_LookupTakesTheLowestIndex :
    (bankA .reject .pass 0).entries[(0 : Fin 32)] = some entry0
      ∧ ({ Bank.atReset with entries := Bank.atReset.entries.set 31 (some entry0) } : Bank).entries[(31 : Fin 32)]
        = some entry0 := by decide +kernel

/-- A request that each of the ten causes turns away. -/
def turnedAway : List (State × Request × Code) :=
  let r := routed .reject .reject
  let tap (st : TapState) (pend : Bool) : State :=
    { r with taps := r.taps.set 0 { r.taps[0] with state := st, disablePending := pend } }
  let q := read 0x00100200 1 4
  [ (r, read 0x02000000 1 5, .refused), (r, read 0x00FFFFFF 1 5, .refused)
  , (r, write 0x00100010 [1] 2, .denied), (r, read 0x00100020 5 2, .tooLong), (r, read 0x001000FE 3 2, .boundary)
  , (tap .disabled false, q, .tapDisabled), (tap .issued true, q, .tapDisabled), (tap .faulted false, q, .tapFault)
  , (r.setTrans 15 (some (claimed .queued .read 4)), q, .tagInUse), (withMgmt r { asking .readIdentity [] with tag := 4 }, q, .tagInUse)
  , ({ r with taps := r.taps.set 0 { r.taps[0] with queue := [0, 1, 2, 3, 4, 5] } }, q, .queueFull)
  , ({ r with records := { r.records with trans := .replicate 16 (some (claimed .queued .read 9)) } }, q, .branchFull) ]

/-- Each meets the statement's hypotheses, as its outcome in that code shows, with room in the refusal queue and
without. -/
theorem test_meets_RefusedRequestsCarryTheFirstFailingCheck :
    turnedAway.all (fun (s, q, code) =>
      let a := arrived s (.request q)
      decide (Takes a (.request q) ∧ a.windows.selector = some .A ∧ (withRefusals a 7).canRefuse = true
        ∧ (withRefusals a 8).canRefuse = false
        ∧ ((after .classifyPacket (withRefusals a 7)).classifier.refusals.map (·.code)).getLast? = some code
        ∧ (after .classifyPacket (withRefusals a 8)).classifier.stall
            = .onRefusal ((Down.request q).refusal code))) = true := by decide +kernel

/-- A claim at the top of every range: length 16, the last word of the window, five records ahead, the last record. -/
theorem test_meets_ClaimFillsTheLowestFreeRecord :
    let r := routed .reject .pass
    let q := read 0x00100FF0 16 4
    let s := arrived { r with
      records := { r.records with trans := (Vector.replicate 16 (some (claimed .queued .read 9))).set 15 none }
      taps := r.taps.set 0 { r.taps[0] with state := .issued, queue := [0, 1, 2, 3, 4] } } (.request q)
    Takes s (.request q) ∧ s.windows.selector = some .A ∧ (s.bank .A).match? q.address = some 1
      ∧ (s.bank .A).entries[(1 : Fin 32)] = some entry1 ∧ entry1.action = .claim ∧ entry1.tap = some 0
      ∧ entry1.permitsRead = true ∧ q.length ≤ entry1.maxLength.getD 16
      ∧ q.address.toNat + q.length - 1 < entry1.base.toNat + 2 ^ entry1.sizeExponent
      ∧ ((s.tap 0).state = .issued ∧ (s.tap 0).disablePending = false)
      ∧ s.tagInUse q.tag = false ∧ (s.tap 0).queue.length < 6
      ∧ s.transAt 15 = none ∧ (∀ j : Fin 16, j < 15 → s.transAt j ≠ none) := by decide +kernel

theorem test_meets_MgmtPacketIsKeptOrRefused :
    let m : MgmtPacket := { hop := 0, tag := 33, operation := 1, operands := [], reserved := 0 }
    let full : State := { up with records := { up.records with mgmt := .replicate 3 (some (asking .readIdentity [])) } }
    Takes (arrived up (.mgmt m)) (.mgmt m) ∧ m.hop = 0
      ∧ (ask up .readIdentity []).tagInUse m.tag = true
      ∧ (full.tagInUse 1 = false ∧ ∀ j, full.mgmtAt j ≠ none)
      ∧ (up.tagInUse m.tag = false ∧ up.mgmtAt 0 = none ∧ ∀ j : Fin 3, j < 0 → up.mgmtAt j ≠ none)
      ∧ (withRefusals up 7).canRefuse = true ∧ (withRefusals up 8).canRefuse = false := by decide +kernel

theorem test_meets_ExaminationIssuesOrHolds :
    let marked := fun r : TransRecord => { r with hold := true }
    ((busy .idle .queued .write).Serving 0 .idle 0 (claimed .queued .write 4)
        ∧ ((busy .idle .queued .write).tap 0).transfers = []
        ∧ ((busy .idle .queued .write).bank .A).entries[(1 : Fin 32)] = some entry1
        ∧ entry1.localBase = some 0x010000)
      ∧ (busyWith .idle .queued .read marked).Serving 0 .idle 0 (marked (claimed .queued .read 4)) := by
  decide +kernel

theorem test_meets_AcknowledgeWithoutDataEndsOrRetries :
    [Kind.read, .write].all (fun k => [0, 2, 3, 15].all fun n =>
      let f := fun r : TransRecord => { r with retryCount := n }
      let s := busyWith .issued .issued k f
      decide (s.Serving 0 .issued 0 (f (claimed .issued k 4)) ∧ s.Listening 0 ∧ (s.tap 0).disablePending = false
        ∧ (s.tap 0).presented = some (presentedFor k) ∧ (presentedFor k).kind = k
        ∧ (n < s.mgmt.params.retryLimit ↔ n ≤ 2))
      && [[], [0], [3]].all fun rises =>
        let t := s.modTap 0 fun p => { p with driving := true, rises := rises }
        decide (t.Serving 0 .issued 0 (f (claimed .issued k 4)) ∧ (t.tap 0).driving = true ∧ (t.tap 0).rises = rises
          ∧ (t.tap 0).disablePending = false ∧ (t.tap 0).presented = some (presentedFor k))) = true := by
  decide +kernel

/-- Rises of TtACK while the part drives TtD wait for the release: the DONE of a WRITE closes the exchange, and the one
behind it is then late. -/
theorem test_rises_wait_for_the_release :
    let s := (busy .issued .issued .write).modTap 0 fun p => { p with driving := true }
    let t := after (.tapAcknowledge 0 (.strobe 1)) (after (.tapAcknowledge 0 (.strobe 0)) s)
    (t.tap 0).rises = [0, 1] ∧ (t.tap 0).state = .issued
      ∧ (let u := after (.tapAcknowledge 0 .release) t
         (u.tap 0).state = .idle ∧ (u.transAt 0).map TransRecord.code = some (some .ok) ∧ (u.tap 0).counters.late = 1
           ∧ u.Listening 0) := by decide +kernel

/-- Two DONE rises of a READ that waits have a transfer each once the part releases TtD. -/
theorem test_each_done_has_its_transfer :
    let s := (busy .issued .issued .read).modTap 0 fun p => { p with driving := true, rises := [0, 0] }
    ((after (.tapAcknowledge 0 .release) s).tap 0).transfers = .replicate 2 { left := 4, got := [] } := by
  decide +kernel

/-- An exchange that a branch reset ends: the DONE of a READ that waits begins its transfer, the ERROR is late. -/
theorem test_branch_reset_takes_the_rises :
    let p := { busyTap .issued .read with driving := true, rises := [0, 1] }
    p.atBranchReset.transfers = [{ left := 4, got := [] }] ∧ p.atBranchReset.counters.late = 1
      ∧ p.atBranchReset.state = .disabled ∧ p.transfersAtEnd = [{ left := 4, got := [] }] := by decide +kernel

/-- The same with transfers of DONE data in progress at tap 0. -/
def during (s : State) (xs : List Transfer) : State := s.modTap 0 fun p => { p with transfers := xs }

/-- A transfer that lacks its last byte, and one that lacks two. -/
def lastByte : Transfer := { left := 1, got := [1, 2, 3] }
def twoBytes : Transfer := { left := 2, got := [1, 2] }

theorem test_word_of_last_byte :
    ((during up [lastByte]).tap 0).endedBy 4 = [{ left := 0, got := [1, 2, 3, 4] }]
      ∧ [1, 2, 3, 4] = [(0x01020304 : Word)].flatMap (fun w => [w.extractLsb' 24 8, w.extractLsb' 16 8,
        w.extractLsb' 8 8, w.extractLsb' 0 8]) ∧ ((during up [twoBytes]).tap 0).endedBy 4 = [] := by decide +kernel

/-- Where bytes are shared, a byte that is the last of two transfers ends both, and none goes on without a byte to come;
where they are not, it ends the older alone. -/
theorem test_a_byte_ends_each_transfer_at_its_last :
    (Config.transfersShareBytes = true → ((during up [lastByte, lastByte]).tap 0).endedBy 4
        = .replicate 2 { left := 0, got := [1, 2, 3, 4] } ∧ ((during up [lastByte, lastByte]).tap 0).goingAfter 4 = [])
      ∧ (Config.transfersShareBytes = false → ((during up [lastByte, lastByte]).tap 0).endedBy 4
        = [{ left := 0, got := [1, 2, 3, 4] }] ∧ ((during up [lastByte, lastByte]).tap 0).goingAfter 4 = [lastByte]) := by
  refine ⟨fun h => ?_, fun h => ?_⟩ <;>
    simp [during, Tap.endedBy, Tap.goingAfter, Tap.afterByte, lastByte, h]

theorem test_meets_ReadDoneTakesItsBytes :
    [[], [lastByte], [twoBytes]].all (fun xs =>
      let s := during (busy .issued .issued .read) xs
      decide (s.Serving 0 .issued 0 (claimed .issued .read 4) ∧ s.Listening 0 ∧ (s.tap 0).disablePending = false
        ∧ (s.tap 0).presented = some (presentedFor .read) ∧ (s.tap 0).transfers = xs
        ∧ ((s.tap 0).endedBy 4 = [] ↔ xs ≠ [lastByte]))) = true := by decide +kernel

theorem test_meets_LateAcknowledgeIsCounted :
    up.resetLow = false ∧ (up.tap 3).state ≠ .issued ∧ (up.tap 3).state ≠ .idle ∧ (up.tap 3).driving = false
      ∧ (up.tap 3).transfers = []
      ∧ [up, busy .idle .queued .read].all (fun s => [[lastByte], [twoBytes]].all fun xs =>
        decide ((during s xs).resetLow = false ∧ ((during s xs).tap 0).state ≠ .issued
          ∧ (((during s xs).tap 0).endedBy 4 = [] ↔ xs = [twoBytes])
          ∧ (((during s xs).tap 0).goingAfter 4 = [] ↔ xs = [lastByte]))) = true
      ∧ (up.tap 0).state ≠ .idle ∧ ((during (busy .idle .queued .read) [lastByte]).tap 0).state = .idle := by
  decide +kernel

/-- The last byte of a late DONE at an IDLE tap: the record that waited behind is issued in that event. -/
theorem test_late_done_examines :
    let t := after (.tapAcknowledge 0 (.dataByte 4)) (during (busy .idle .queued .read) [lastByte])
    (t.tap 0).state = .issued ∧ (t.tap 0).counters.late = 1 ∧ (t.tap 0).transfers = [] ∧ (t.tap 0).driving = true := by
  decide +kernel

theorem test_meets_AckTimeoutFaultsTheTap :
    let s := busy .issued .issued .write
    s.RecordsPlaced ∧ s.Serving 0 .issued 0 (claimed .issued .write 4) ∧ (s.tap 0).ackTimer = some 0
      ∧ (s.tap 0).disablePending = false :=
  ⟨State.recordsPlaced_of_checks (by decide +kernel), by decide +kernel⟩

theorem test_meets_PendingDisableEndsWithTheExchange :
    ((disabling .write).RecordsPlaced ∧ (disabling .write).MgmtPlaced)
      ∧ [Kind.read, .write].all (fun k => decide ((disabling k).Serving 0 .issued 0 (claimed .issued k 4)
        ∧ ((disabling k).tap 0).disablePending = true ∧ (disabling k).Listening 0
        ∧ (disabling k).InProgress 0 { asking .tapDisable [0] with state := .executing } .tapDisable
        ∧ ((disabling k).tap 0).presented = some (presentedFor k)
        ∧ ((disabling k).tap 0).ackTimer = some 0)) = true :=
  ⟨⟨State.recordsPlaced_of_checks (by decide +kernel), State.mgmtPlaced_of_checks (by decide +kernel)⟩,
    by decide +kernel⟩

/-- Tap 0 ISSUED with a disable pending, both records orphans, and the last byte of the DONE to come. -/
def disablingOrphans : State :=
  during ((withMgmt (disabling .read) { asking .tapDisable [0] with state := .executing, orphan := true }).setTrans 0
    (some { claimed .issued .read 4 with orphan := true })) [lastByte]

theorem test_meets_PendingDisableEndsWithTheExchange_orphans :
    (disablingOrphans.RecordsPlaced ∧ disablingOrphans.MgmtPlaced)
      ∧ disablingOrphans.Serving 0 .issued 0 { claimed .issued .read 4 with orphan := true }
      ∧ disablingOrphans.Listening 0 ∧ (disablingOrphans.tap 0).disablePending = true
      ∧ disablingOrphans.InProgress 0 { asking .tapDisable [0] with state := .executing, orphan := true } .tapDisable
      ∧ (disablingOrphans.tap 0).presented = some (presentedFor .read)
      ∧ (disablingOrphans.tap 0).endedBy 4 = [{ left := 0, got := [1, 2, 3, 4] }] :=
  ⟨⟨State.recordsPlaced_of_checks (by decide +kernel), State.mgmtPlaced_of_checks (by decide +kernel)⟩,
    by decide +kernel⟩

theorem test_meets_OrphanIsFreedWithoutAnAnswer :
    let orphan := fun r : TransRecord => { r with orphan := true }
    let s := busyWith .issued .issued .read orphan
    let w := busyWith .issued .issued .write orphan
    (s.RecordsPlaced ∧ s.Serving 0 .issued 0 (orphan (claimed .issued .read 4)) ∧ (s.tap 0).ackTimer = some 0
        ∧ (s.tap 0).disablePending = false ∧ s.Listening 0)
      ∧ ((during s [lastByte]).RecordsPlaced ∧ ((during s [lastByte]).tap 0).endedBy 4 ≠ []
        ∧ (during s [lastByte]).Serving 0 .issued 0 (orphan (claimed .issued .read 4)))
      ∧ w.RecordsPlaced ∧ w.Serving 0 .issued 0 (orphan (claimed .issued .write 4)) ∧ w.Listening 0
      ∧ (w.tap 0).presented = some (presentedFor .write) :=
  ⟨⟨State.recordsPlaced_of_checks (by decide +kernel), by decide +kernel⟩,
    ⟨State.recordsPlaced_of_checks (by decide +kernel), by decide +kernel⟩,
    State.recordsPlaced_of_checks (by decide +kernel), by decide +kernel⟩

theorem test_meets_RetryAndWaitTimersAct :
    (let s := busy .retryWait .retryWait .read
     s.Serving 0 .retryWait 0 (claimed .retryWait .read 4) ∧ (s.tap 0).retryTimer = some 0
       ∧ (s.bank .A).entries[(1 : Fin 32)] = some entry1)
      ∧ [TapState.issued, .held].all (fun st =>
        let s := busy st .issued .read
        let r := { claimed .queued .read 6 with waitRemaining := some 0 }
        decide (s.transAt 1 = some r ∧ r.state = .queued ∧ (s.tap r.tap).state = st)) = true := by decide +kernel

theorem test_meets_AttentionLineChangesSetFlags :
    let s := up.modTap 3 fun p => { p with sampledA := true, sampledB := true }
    let t := s.modTap 3 fun p => { p with lineA := true, lineB := true }
    up.resetLow = false ∧ ((s.tap 3).sampledA = true ∧ (s.tap 3).lineA = false)
      ∧ ((s.tap 3).sampledB = true ∧ (s.tap 3).lineB = false) ∧ (t.tap 3).lineA = true ∧ (t.tap 3).lineB = true
      ∧ (up.tap 3).sampledA = false ∧ (up.tap 3).sampledB = false ∧ (s.tap 3).nowA = false ∧ (s.tap 3).nowB = false
      ∧ (let u := up.modTap 3 fun p => { p with nowA := true, nowB := true }
         (u.tap 3).nowA = true ∧ (u.tap 3).nowB = true) := by decide +kernel

/-- A line is sampled once in a microsecond: a second sample changes nothing until the next one. -/
theorem test_one_sample_in_a_microsecond :
    let s := after (.attentionLineReleased 2 .B) up
    let t := after (.attentionLineAsserted 2 .B) s
    t = s ∧ (after (.attentionLineAsserted 2 .B) s.tick).attention.flagsSet = 0x200 := by decide +kernel

theorem test_meets_ReAnnouncementRepeatsTheSequence :
    let s := { up with attention := { up.attention with newList := some 1, timer := some 0 } }
    s.resetLow = false ∧ s.attention.newList = some 1 ∧ s.attention.timer = some 0 := by decide +kernel

/-! ### The management operations -/

/-- A part with nothing in its management records can have any operation, with any operands, ready to begin. -/
theorem test_meets_Ready (s : State) (hl : s.resetLow = false) (hp : s.mgmt.resetPending = false)
    (hm : s.records.mgmt = .replicate 3 none) (op : Op) (ws : List Word) :
    (ask s op ws).Ready 0 (asking op ws) op ws := by
  refine ⟨⟨hl, hp, ?_, rfl, ?_, rfl, rfl⟩, rfl, rfl⟩
  · simp only [ask, withMgmt, State.executing, hm]
    rfl
  · simp only [ask, withMgmt, State.mgmtAt, hm]
    rfl

theorem test_meets_UnknownAndMiscountedOperationsAreRefused :
    let r := { asking .branchReset [] with operation := 0x7F }
    (withMgmt up r).CanBegin 0 r ∧ (Op.catalogue.all fun op => r.operation != op.code) = true
      ∧ (ask up .branchReset [0]).CanBegin 0 (asking .branchReset [0])
      ∧ (asking .branchReset [0]).operands.length ≠ Op.operandCount .branchReset := by decide +kernel

theorem test_meets_WriteEntryStoresWhatIsGiven :
    (entry1.writable ∧ ({ entry0 with sizeExponent := 24, maxLength := some 16 } : Window).writable
        ∧ ({ entry0 with sizeExponent := 4, maxLength := some 1 } : Window).writable)
      ∧ (0x0000007D : Word).extractLsb' 0 8 = (0#1 ++ BitVec.ofNat 5 31 ++ BitVec.ofNat 2 BankId.B.num : BitVec 8)
      ∧ ((up.bank .A).state = .opened ∧ ((routed .pass .pass).bank .A).state ≠ .opened)
      ∧ (2 ≤ ((0x2 : Word).extractLsb' 0 2).toNat ∧ (0x80 : Word).getLsbD 7 = true
        ∧ (0x880 : Word).extractLsb' 11 21 ≠ 0 ∧ (0x20000 : Word).extractLsb' 17 15 ≠ 0
        ∧ (0x1000000 : Word).extractLsb' 24 8 ≠ 0 ∧ ((0x183 : Word).extractLsb' 0 5).toNat < 4
        ∧ 24 < ((0x199 : Word).extractLsb' 0 5).toNat ∧ (0x1E8 : Word).extractLsb' 5 2 = 3
        ∧ (0x8 : Word).extractLsb' 7 2 = 0
        ∧ ((0x180 : Word).getLsbD 8 = true ∧ 4 ≤ ((0x988 : Word).extractLsb' 9 3).toNat)
        ∧ (0x480 : Word).getLsbD 10 = true ∧ ((0x188 : Word).extractLsb' 12 5).toNat = 0
        ∧ 16 < ((0x11188 : Word).extractLsb' 12 5).toNat) := by
  unfold Window.writable
  refine ⟨⟨?_, ?_, ?_⟩, by decide +kernel⟩ <;> simp [entry0, entry1]

theorem test_meets_BankContentsAreClearedAndSet :
    Asked up .clearBank [one BankId.B.num] ((up.bank .B).state = .opened)
      ∧ Asked (routed .pass .pass) .setMissAction [one BankId.A.num, one 2]
          (((routed .pass .pass).bank .A).state ≠ .opened)
      ∧ Asked up .clearHitCounts [one BankId.A.num] (2 ≤ (2 : Word).toNat)
      ∧ Asked up .setMissAction [0, 3] ((3 : Word).toNat ≠ 1 ∧ (3 : Word).toNat ≠ 2)
      ∧ (0 : Word).toNat ≠ 1 ∧ (0 : Word).toNat ≠ 2 := by decide +kernel

theorem test_meets_VerifyBankChecksAndFreezes :
    Asked up .verifyBank [one BankId.B.num] ((up.bank .B).state = .opened)
      ∧ Asked (routed .pass .pass) .verifyBank [one BankId.A.num] (((routed .pass .pass).bank .A).state ≠ .opened)
      ∧ Asked up .verifyBank [2] (2 ≤ (2 : Word).toNat)
      ∧ (let r := { asking .verifyBank [one BankId.B.num] with state := .executing }
         let s := withMgmt (up.modBank .B fun x => { x with
           entries := x.entries.set 31 (some { entry0 with base := 0x00000080 }) }) r
         s.resetLow = false ∧ s.InProgress 0 r .verifyBank ∧ (s.bank .B).state = .opened
           ∧ (s.bank .B).entries[(31 : Fin 32)] = some { entry0 with base := 0x00000080 }
           ∧ ({ entry0 with base := 0x00000080 } : Window).verify = some .baseMisaligned
           ∧ (∀ j : Fin 32, j < 31 → (s.bank .B).entries[j] = none)
           ∧ (withMgmt s { r with orphan := true }).InProgress 0 { r with orphan := true } .verifyBank)
      ∧ (let r := { asking .verifyBank [one BankId.B.num] with state := .executing }
         [r, { r with orphan := true }].all (fun r => decide ((withMgmt up r).InProgress 0 r .verifyBank
           ∧ (withMgmt up r).records.mgmtQueue.Nodup ∧ ((withMgmt up r).bank .B).state = .opened)) = true)
      ∧ (∀ j : Fin 32, (up.bank .B).entries[j] = none) := by decide +kernel

/-- Bank A VERIFIED, or with references, or bank B ACTIVE beside it. -/
def selecting (refs : Nat) (selector : Option BankId) : State :=
  { up with windows :=
    { bankA := { bankA .pass .pass refs with state := .verified }
      bankB := { Bank.atReset with state := if selector = some .B then .active else .verified }, selector } }

theorem test_meets_BanksAreOpenedAndSelected :
    (∀ s ∈ [up, routed .pass .pass, selecting 0 none, selecting 1 (some .B)], s.SelectorAgrees)
      ∧ Asked up .openBank [one BankId.A.num] ((up.bank .A).state = .opened)
      ∧ Asked (selecting 0 none) .openBank [one BankId.A.num] (((selecting 0 none).bank .A).refs = 0)
      ∧ Asked (selecting 1 (some .B)) .openBank [one BankId.A.num] (0 < ((selecting 1 (some .B)).bank .A).refs)
      ∧ Asked (routed .pass .pass) .openBank [one BankId.A.num] (((routed .pass .pass).bank .A).state = .active)
      ∧ Asked (selecting 1 (some .B)) .selectBank [one BankId.A.num]
          (((selecting 1 (some .B)).bank .A).state = .verified)
      ∧ Asked (routed .pass .pass) .selectBank [one BankId.A.num] (((routed .pass .pass).bank .A).state = .active)
      ∧ Asked up .selectBank [one BankId.A.num] ((up.bank .A).state = .opened)
      ∧ Asked (selecting 1 (some .B)) .selectBank [2] (3 ≤ (3 : Word).toNat)
      ∧ Asked up .openBank [2] (2 ≤ (2 : Word).toNat) := by
  refine ⟨?_, by and_intros <;> decide +kernel⟩
  intro s hs b
  simp only [List.mem_cons, List.not_mem_nil, or_false] at hs
  rcases hs with rfl | rfl | rfl | rfl <;> cases b <;> decide +kernel

/-- Tap 3 in a state. -/
def tap3 (st : TapState) (pend : Bool) : State := up.modTap 3 fun p => { p with state := st, disablePending := pend }

theorem test_meets_TapsAreEnabledAndRecovered :
    Asked (tap3 .disabled false) .tapEnable [one 3] (((tap3 .disabled false).tap 3).state = .disabled)
      ∧ Asked (tap3 .issued true) .tapEnable [one 3] (((tap3 .issued true).tap 3).disablePending = true)
      ∧ Asked (tap3 .issued false) .tapEnable [one 3] (((tap3 .issued false).tap 3).disablePending = false)
      ∧ Asked (tap3 .faulted false) .tapRecover [one 3] (((tap3 .faulted false).tap 3).state = .faulted)
      ∧ Asked (tap3 .idle false) .tapRecover [one 3] (((tap3 .idle false).tap 3).state = .idle)
      ∧ Asked (tap3 .held false) .tapRecover [one 3]
          (((tap3 .held false).tap 3).state ≠ .faulted ∧ ((tap3 .held false).tap 3).state ≠ .idle)
      ∧ Asked up .tapEnable [4] (4 ≤ (4 : Word).toNat) := by
  and_intros <;> decide +kernel

theorem test_meets_TapDisableAnswersTheQueueOrWaits :
    ((busy .issued .issued .read).RecordsPlaced ∧ (busy .held .held .read).RecordsPlaced)
      ∧ ((busy .issued .issued .read).ExchangesAgree ∧ (busy .held .held .read).ExchangesAgree)
      ∧ Asked (busy .issued .issued .read) .tapDisable [one 0] (((busy .issued .issued .read).tap 0).state = .issued)
      ∧ Asked (busy .held .held .read) .tapDisable [one 0] (((busy .held .held .read).tap 0).state ≠ .issued)
      ∧ Asked up .tapDisable [4] (4 ≤ (4 : Word).toNat) := by
  unfold State.ExchangesAgree
  exact ⟨⟨State.recordsPlaced_of_checks (by decide +kernel), State.recordsPlaced_of_checks (by decide +kernel)⟩,
    by and_intros <;> decide +kernel⟩

/-- A watch as Set Watch leaves it. -/
def aWatch : Watch :=
  { armed := true, low := 5, high := 5, reads := false, writes := true, tap := some 3, hold := true, oneShot := true,
    hits := 0 }

theorem test_meets_LinesAndWatchesAreSet :
    Asked up .setTapLines [one 3, pack [(1, 1), (1, 1)], one 1] True
      ∧ Asked up .setTapLines [0, 4, 0] (4 ≤ (4 : Word).toNat) ∧ Asked up .setTapLines [0, 0, 2] (2 ≤ (2 : Word).toNat)
      ∧ Asked up .setWatch (watchOperands 1 aWatch) (aWatch.armed = true ∧ aWatch.hits = 0 ∧ aWatch.writes = true
          ∧ aWatch.low.toNat ≤ aWatch.high.toNat)
      ∧ ((0x20 : Word).extractLsb' 1 2 = 0 ∧ 4 < ((0x2A : Word).extractLsb' 3 3).toNat
          ∧ (0x122 : Word).extractLsb' 8 24 ≠ 0 ∧ (4 : Word).toNat < (5 : Word).toNat)
      ∧ Asked up .disarmWatch [one 1] (2 ≤ (2 : Word).toNat) := by
  and_intros <;> decide +kernel

theorem test_meets_HeldTapIsReleasedDiscardedOrRead :
    [Kind.read, .write].all (fun k => decide ((busy .held .held k).Serving 0 .held 0 (claimed .held k 4)
        ∧ ((busy .held .held k).bank .A).entries[(1 : Fin 32)] = some entry1
        ∧ (ask (busy .held .held k) .readHeldRequest [0, 1, 15]).Ready 0 (asking .readHeldRequest [0, 1, 15])
            .readHeldRequest [0, 1, 15])) = true
      ∧ ((claimed .held .write 4).writeData = some [7] ∧ (0 : Word).toNat < (claimed .held .write 4).length
          ∧ (claimed .held .write 4).length ≤ (1 : Word).toNat ∧ (15 : Word).toNat < 16)
      ∧ Asked up .releaseHold [one 3] ((up.tap 3).state ≠ .held)
      ∧ Asked up .readHeldRequest [one 3, 0, 16] ((up.tap 3).state ≠ .held)
      ∧ Asked up .readHeldRequest [4, 0, 0] (4 ≤ (4 : Word).toNat)
      ∧ Asked up .readHeldRequest [0, 2, 0] (2 ≤ (2 : Word).toNat)
      ∧ Asked up .readHeldRequest [0, 1, 16] (16 ≤ (16 : Word).toNat) := by
  and_intros <;> decide +kernel

theorem test_meets_ClearOnReadIsProtected :
    Asked up .readAttention [one 0] True
      ∧ Asked (busy .held .held .read) .readCounters [one 5, one 1]
          ((∃ k, ((busy .held .held .read).tap k).state = .held)
            ∧ (busy .held .held .read).mgmt.params.clearWhileHeld = false)
      ∧ Asked up .readCounters [6, one 1] (¬ ∃ k, (up.tap k).state = .held)
      ∧ Asked up .readCounters [one 1, one 1] True
      ∧ Asked up .readCounters [7, 0] (7 ≤ (7 : Word).toNat) ∧ Asked up .readCounters [0, 2] (2 ≤ (2 : Word).toNat)
      ∧ Asked up .readAttention [2] (2 ≤ (2 : Word).toNat) := by
  and_intros <;> decide +kernel

/-- A HOST-NEW with sequence 255 not yet acknowledged. -/
def listing : State := { up with attention := { up.attention with sequence := 255, newList := some 1 } }

theorem test_meets_AttentionOperationsAct :
    Asked up .clearAttention [(0x1FFFF : BitVec 17).setWidth 32] True
      ∧ Asked up .setAttentionEnables [(0x1FFFF : BitVec 17).setWidth 32, one 1] True
      ∧ Asked listing .acknowledgeAttention [255] ((255 : Word).toNat < 256 ∧ listing.attention.newList ≠ none
          ∧ (255 : Word).toNat = listing.attention.sequence.toNat)
      ∧ Asked listing .acknowledgeAttention [254] ((254 : Word).toNat ≠ listing.attention.sequence.toNat)
      ∧ Asked up .acknowledgeAttention [0] (up.attention.newList = none)
      ∧ Asked up .clearAttention [0x20000] (2 ^ 17 ≤ (0x20000 : Word).toNat)
      ∧ Asked up .setAttentionEnables [0, 2] (2 ≤ (2 : Word).toNat)
      ∧ Asked up .acknowledgeAttention [256] (256 ≤ (256 : Word).toNat) := by
  and_intros <;> decide +kernel

theorem test_meets_SetParameterActs :
    Asked up .setParameter [one 3, 65535] (1 ≤ (65535 : Word).toNat ∧ (65535 : Word).toNat ≤ 65535)
      ∧ Asked up .setParameter [4, 15] ((15 : Word).toNat ≤ 15)
      ∧ Asked up .setParameter [5, 4095] (1 ≤ (4095 : Word).toNat ∧ (4095 : Word).toNat ≤ 4095)
      ∧ Asked up .setParameter [6, 65535] ((65535 : Word).toNat ≤ 65535)
      ∧ Asked up .setParameter [7, 255] ((255 : Word).toNat ≤ 255) ∧ Asked up .setParameter [8, one 1] True
      ∧ Asked up .setParameter [9, one 1] (up.mgmt.params.lowerEnable = true)
      ∧ Asked State.reset .setParameter [9, one 1] (State.reset.mgmt.params.lowerEnable = false)
      ∧ Asked { up with lower := .resetUpper } .setParameter [9, one 0]
          (({ up with lower := .resetUpper } : State).lower.state ≠ .up)
      ∧ Asked up .setParameter [9, one 0] (up.lower.state = .up)
      ∧ Asked up .setParameter [10, 0] (10 ≤ (10 : Word).toNat)
      ∧ Asked up .setParameter [3, 65536] (65535 < (65536 : Word).toNat)
      ∧ Asked up .setParameter [4, 16] (15 < (16 : Word).toNat)
      ∧ Asked up .setParameter [5, 4096] (4095 < (4096 : Word).toNat)
      ∧ Asked up .setParameter [7, 256] (255 < (256 : Word).toNat)
      ∧ Asked up .setParameter [8, 2] (2 ≤ (2 : Word).toNat) := by
  and_intros <;> decide +kernel

theorem test_meets_BranchResetAnswersFirst : Asked up .branchReset [] True := by decide +kernel

theorem test_meets_ReadsChangeNothing :
    Asked up .readIdentity [] True ∧ Asked up .readBranchStatus [] True ∧ Asked up .readRecord [one 15] True
      ∧ Asked up .readRecord [one 18] True ∧ Asked up .readEntry [one 1, one 31] True ∧ Asked up .readWatch [one 1] True
      ∧ Asked up .readTapStatus [one 3] True ∧ Asked up .readParameter [9] True
      ∧ Asked up .readRecord [19] (19 ≤ (19 : Word).toNat) ∧ Asked up .readEntry [0, 32] (32 ≤ (32 : Word).toNat)
      ∧ Asked up .readEntry [2, 0] (2 ≤ (2 : Word).toNat) ∧ Asked up .readWatch [2] (2 ≤ (2 : Word).toNat)
      ∧ Asked up .readTapStatus [4] (4 ≤ (4 : Word).toNat) ∧ Asked up .readParameter [10] (10 ≤ (10 : Word).toNat) := by
  and_intros <;> decide +kernel

/-! ### The invariants -/

/-- A state with exchanges, an operation in progress, queues and an announcement, that has every invariant, and a command
that moves it on. -/
def living : State :=
  { disabling .write with
    attention := { up.attention with flagsSet := 1, flagsAnnounced := 1, newList := some 1, timer := some 9 }
    lowerTx := [pass true], upperRx := [.request (read 0x02000000 1 20)]
    classifier := { stall := .onRefusal refusal, paused := false, refusals := .replicate 8 refusal }
    pending := [.tapAcknowledge 0 (.strobe 0)] }

theorem test_meets_the_invariants :
    living.TablesAgree ∧ living.TagsDiffer ∧ living.QueuesAgree ∧ living.PortsAgree ∧ living.RecordsPlaced
      ∧ living.MgmtPlaced :=
  ⟨State.tablesAgree_of_checks (by decide +kernel) (by decide +kernel),
    State.tagsDiffer_of_checks (by decide +kernel), State.queuesAgree_of_checks (by decide +kernel),
    State.portsAgree_of_checks (by decide +kernel), State.recordsPlaced_of_checks (by decide +kernel),
    State.mgmtPlaced_of_checks (by decide +kernel)⟩

theorem test_meets_the_other_invariants : living.ExchangesAgree ∧ living.AttentionAgrees := by
  unfold State.ExchangesAgree State.AttentionAgrees
  decide +kernel

theorem test_a_step_of_it : ∃ t, step living = .next t ∧ (t.tap 0).state = .disabled ∧ t.pending = [] :=
  ⟨after (.tapAcknowledge 0 (.strobe 0)) { living with pending := [] }, rfl, by decide +kernel, by decide +kernel⟩

theorem test_meets_BanksAreFrozenUnlessOpen :
    (∃ t, exec .classifyPacket (routed .pass .pass) = .next t) ∧ ((routed .pass .pass).bank .A).state = .active
      ∧ ((selecting 0 none).bank .A).state ≠ .opened ∧ (up.bank .A).state = .opened :=
  ⟨⟨_, rfl⟩, by decide +kernel⟩

end Sys2Proof.Tests
end

/-! ## The window tables under events

What an event can do to the window tables and to the claims of the transaction records, said once: apart from the bank
operations, the classifier's allocation and power-up reset, an event keeps the banks but for hit counts, keeps or frees
records, and keeps the reference counts right. -/

namespace Sys2Proof.Machine

/-! ### The contents of a bank -/

/-- An entry but for its hit count. -/
def Window.unhit (w : Window) : Window := { w with hits := 0 }

theorem Window.verify_unhit (w : Window) : w.unhit.verify = w.verify := rfl

theorem Bank.contents_eq_iff {b c : Bank} : c.contents = b.contents ↔
    (∀ e : Fin 32, c.entries[e].map Window.unhit = b.entries[e].map Window.unhit) ∧ c.missAction = b.missAction := by
  have hmap : ∀ x : Bank, x.contents = ((x.entries.map (Option.map Window.unhit)).toList, x.missAction) := by
    intro x
    rw [Vector.toList_map]
    rfl
  rw [hmap, hmap, Prod.mk.injEq, Vector.toList_inj, Vector.ext_iff]
  simp [Fin.forall_iff]

/-- Verification looks at the contents alone (R15). -/
theorem Bank.firstFailing_of_contents {b c : Bank} (h : c.contents = b.contents) : c.firstFailing = b.firstFailing := by
  have hbind : ∀ o : Option Window, o.bind Window.verify = (o.map Window.unhit).bind Window.verify := by
    intro o
    cases o <;> simp [Window.verify_unhit]
  unfold Bank.firstFailing
  congr 1
  funext e
  rw [hbind, (Bank.contents_eq_iff.1 h).1 e, ← hbind]

/-- An entry of a bank with the same contents is the same but for its hit count. -/
theorem Bank.entry_of_contents {b c : Bank} (h : c.contents = b.contents) {e : Fin 32} {w : Window}
    (hw : b.entries[e] = some w) : ∃ x, c.entries[e] = some x ∧ x.unhit = w.unhit := by
  have he := (Bank.contents_eq_iff.1 h).1 e
  rw [hw] at he
  exact Option.map_eq_some_iff.1 he

/-- A match's rise of a hit count leaves the contents (R5). -/
theorem Bank.contents_countHit (b : Bank) (i : Fin 32) : (b.countHit i).contents = b.contents := by
  refine Bank.contents_eq_iff.2 ⟨fun e => ?_, rfl⟩
  by_cases h : i = e
  · subst h
    simp [Bank.countHit]
    cases b.entries[i.val] <;> rfl
  · simp [Bank.countHit, Fin.val_ne_of_ne h]

/-- Hit counts cleared leave the contents (R21). -/
theorem Bank.contents_clearHits (b : Bank) :
    ({ b with entries := b.entries.map fun o => o.map fun w => { w with hits := 0 } } : Bank).contents = b.contents := by
  refine Bank.contents_eq_iff.2 ⟨fun e => ?_, rfl⟩
  simp
  cases b.entries[e.val] <;> rfl

/-- A branch reset leaves the contents of a bank (R25). -/
theorem Bank.contents_atBranchReset (b : Bank) : b.atBranchReset.contents = b.contents := b.contents_clearHits

/-! ### Reference counts -/

theorem RecordTable.count_eq_countP (t : RecordTable) (f : TransRecord → Bool) :
    t.count f = t.trans.countP fun o => o.any f := by
  rw [RecordTable.count, Vector.countP_toList]
  congr 1
  funext o
  cases o <;> rfl

/-- One record set among the others: the count loses the old one and gains the new one. -/
theorem RecordTable.count_set (t : RecordTable) (i : Fin 16) (o : Option TransRecord) (f : TransRecord → Bool) :
    ({ t with trans := t.trans.set i o } : RecordTable).count f
      = (t.count f - if t.trans[i].any f then 1 else 0) + if o.any f then 1 else 0 := by
  simp [RecordTable.count_eq_countP, Vector.countP_set]

/-- A record that is counted makes the count positive. -/
theorem RecordTable.count_pos {t : RecordTable} {i : Fin 16} {r : TransRecord} {f : TransRecord → Bool}
    (hr : t.trans[i] = some r) (hf : f r = true) : 0 < t.count f := by
  rw [RecordTable.count_eq_countP, ← Vector.countP_toList, List.countP_pos_iff]
  refine ⟨some r, ?_, by simpa using hf⟩
  rw [Vector.mem_toList_iff, ← hr]
  exact Vector.getElem_mem _

/-- Counting is over the values that a map keeps. -/
theorem RecordTable.count_congr {t u : RecordTable} {f : TransRecord → Bool}
    (h : ∀ i : Fin 16, u.trans[i].any f = t.trans[i].any f) : u.count f = t.count f := by
  have hv : u.trans.map (fun o => o.any f) = t.trans.map (fun o => o.any f) := by
    ext i hi
    simpa using h ⟨i, hi⟩
  have hid : ∀ x : RecordTable, x.count f = (x.trans.map fun o => o.any f).countP id := by
    intro x
    simp [RecordTable.count_eq_countP, Vector.countP_map]
  rw [hid, hid, hv]

/-! ### Events that leave the banks but for hit counts, and keep or free records -/

/-- From `s` to `t` the selector, the bank states and the contents of the banks are kept. -/
structure State.KeepsBanks (s t : State) : Prop where
  selector : t.windows.selector = s.windows.selector
  state : ∀ b, (t.bank b).state = (s.bank b).state
  contents : ∀ b, (t.bank b).contents = (s.bank b).contents

/-- What a record claims: its bank, entry and tap, and the words it addresses. -/
def TransRecord.claim (r : TransRecord) : BankId × Fin 32 × Fin 4 × Word × Nat :=
  (r.bank, r.entry, r.tap, r.address, r.length)

/-- From `s` to `t` the banks are kept but for hit counts and reference counts, each record has its claim from the record
of its place before, and reference counts that were right are right. -/
structure State.Follows (s t : State) : Prop extends s.KeepsBanks t where
  records : ∀ i r, t.transAt i = some r → ∃ q, s.transAt i = some q ∧ r.claim = q.claim
  refs : s.RefsAgree → t.RefsAgree

theorem State.KeepsBanks.trans {s t u : State} (h : s.KeepsBanks t) (h' : t.KeepsBanks u) : s.KeepsBanks u :=
  ⟨h'.selector.trans h.selector, fun b => (h'.state b).trans (h.state b),
    fun b => (h'.contents b).trans (h.contents b)⟩

theorem State.Follows.trans {s t u : State} (h : s.Follows t) (h' : t.Follows u) : s.Follows u where
  toKeepsBanks := h.toKeepsBanks.trans h'.toKeepsBanks
  records i r hr := by
    obtain ⟨q, hq, hc⟩ := h'.records i r hr
    obtain ⟨p, hp, hd⟩ := h.records i q hq
    exact ⟨p, hp, hc.trans hd⟩
  refs hs := h'.refs (h.refs hs)

/-- An event that follows keeps the tables in agreement. -/
theorem State.Follows.tablesAgree {s t : State} (h : s.Follows t) (hs : s.TablesAgree) : t.TablesAgree := by
  obtain ⟨hsel, hrefs, hpass, htr⟩ := hs
  refine ⟨fun b => ?_, h.refs hrefs, fun b hb => ?_, fun i r hr => ?_⟩
  · rw [h.state, h.selector]
    exact hsel b
  · rw [h.state] at hb
    rw [Bank.firstFailing_of_contents (h.contents b)]
    exact hpass b hb
  · obtain ⟨q, hq, hc⟩ := h.records i r hr
    simp only [TransRecord.claim, Prod.mk.injEq] at hc
    obtain ⟨hbank, hentry, htap, haddress, hlength⟩ := hc
    obtain ⟨ho, w, l, hw, hl, hk, hlo, hhi⟩ := htr i q hq
    obtain ⟨x, hx, hu⟩ := Bank.entry_of_contents (h.contents q.bank) hw
    simp only [Window.unhit, Window.mk.injEq] at hu
    obtain ⟨ebase, esize, -, etap, elocal, -⟩ := hu
    simp only [hbank, hentry, htap, haddress, hlength, h.state]
    exact ⟨ho, x, l, hx, elocal.trans hl, etap.trans hk, ebase ▸ hlo, by rw [ebase, esize]; exact hhi⟩

/-- Windows kept, and every record's claim kept. -/
theorem State.Follows.of_claims {s t : State} (hw : t.windows = s.windows)
    (hc : ∀ i, (t.transAt i).map TransRecord.claim = (s.transAt i).map TransRecord.claim) : s.Follows t := by
  have hb : ∀ b, t.bank b = s.bank b := fun b => by rw [State.bank, hw, State.bank]
  have hn : ∀ b (o : Option TransRecord),
      o.any (fun r => r.bank == b) = (o.map TransRecord.claim).any fun c => c.1 == b := by
    intro b o
    cases o <;> rfl
  refine ⟨⟨by rw [hw], fun b => by rw [hb], fun b => by rw [hb]⟩, fun i r hr => ?_, fun hs b => ?_⟩
  · have hi := hc i
    rw [hr] at hi
    obtain ⟨q, hq, hqr⟩ := Option.map_eq_some_iff.1 hi.symm
    exact ⟨q, hq, hqr.symm⟩
  · rw [hb, hs b]
    exact (RecordTable.count_congr fun i => by rw [hn, hn]; exact congrArg _ (hc i)).symm

/-- An event that touches neither the window tables nor the transaction records. -/
theorem State.Follows.of_same {s t : State} (hw : t.windows = s.windows) (hr : t.records.trans = s.records.trans) :
    s.Follows t :=
  .of_claims hw fun i => by rw [State.transAt, hr, State.transAt]

theorem State.Follows.refl (s : State) : s.Follows s := .of_same rfl rfl

/-! ### Records written, answered and freed -/

/-- A record written over with the same claim. -/
theorem State.follows_setTrans {s : State} {i : Fin 16} {q r : TransRecord} (hq : s.transAt i = some q)
    (hc : r.claim = q.claim) : s.Follows (s.setTrans i (some r)) := by
  refine .of_claims rfl fun j => ?_
  by_cases h : j = i
  · subst h
    simp [hq, hc]
  · rw [s.transAt_setTrans_ne h]

theorem State.follows_modTap (s : State) (t : Fin 4) (f : Tap → Tap) : s.Follows (s.modTap t f) := .of_same rfl rfl

theorem State.follows_modPort (s : State) (p : PortId) (f : Port → Port) : s.Follows (s.modPort p f) :=
  .of_same (by simp) (by simp)

theorem State.follows_answer (s : State) (i : Fin 16) (code : Code) (data : Option (List Word)) :
    s.Follows (s.answer i code data) := by
  unfold State.answer
  split
  · exact .refl s
  · next r hr => exact (State.follows_setTrans (r := r.answeredWith code data) hr rfl).trans (.of_same rfl rfl)

theorem State.follows_answerAll (is : List (Fin 16)) (code : Code) : ∀ s : State, s.Follows (s.answerAll is code) := by
  unfold State.answerAll
  induction is with
  | nil => exact State.Follows.refl
  | cons i is ih => exact fun s => (s.follows_answer i code none).trans (ih _)

/-- A freed record takes its reference with it (R61). -/
theorem State.follows_freeRecord (s : State) (i : Fin 16) : s.Follows (s.freeRecord i) := by
  unfold State.freeRecord
  split
  · exact .refl s
  next r hr =>
    have hbank : ∀ c, (((s.setTrans i none).modBank r.bank fun b => { b with refs := b.refs - 1 }).bank c)
        = { s.bank c with refs := (s.bank c).refs - if r.bank = c then 1 else 0 } := by
      intro c
      by_cases h : c = r.bank
      · subst h
        simp
      · rw [State.bank_modBank_ne _ h]
        simp [Ne.symm h]
    refine ⟨⟨by simp, fun c => by rw [hbank], fun c => by rw [hbank]; rfl⟩, fun j q hj => ?_, fun hs c => ?_⟩
    · by_cases h : j = i
      · subst h
        simp at hj
      · simp only [State.transAt_modBank, s.transAt_setTrans_ne h] at hj
        exact ⟨q, hj, rfl⟩
    · have hcount := s.records.count_set i none fun q => q.bank == c
      have hr' : s.records.trans[i] = some r := hr
      simp only [hr', Option.any_some, Option.any_none, beq_iff_eq, Bool.false_eq_true, if_false, Nat.add_zero] at hcount
      rw [hbank, hs c]
      exact hcount.symm

/-! ### Shared operations that touch neither table -/

theorem State.follows_finishMgmt (s : State) (i : Fin 3) (code : Code) (result : List Word) :
    s.Follows (s.finishMgmt i code result) := by
  obtain ⟨m, q, p, h⟩ := s.finishMgmt_changes i code result
  rw [h]
  exact .of_same rfl rfl

theorem State.follows_finishExecuting (s : State) (op : Op) (code : Code) (result : List Word) :
    s.Follows (s.finishExecuting op code result) := by
  obtain ⟨m, q, p, h⟩ := s.finishExecuting_changes op code result
  rw [h]
  exact .of_same rfl rfl

theorem State.follows_announceIfDue (s : State) : s.Follows s.announceIfDue := by
  obtain ⟨a, h⟩ := s.announceIfDue_changes
  rw [h]
  exact .of_same rfl rfl

theorem State.follows_raiseFlag (s : State) (n : Nat) : s.Follows (s.raiseFlag n) := by
  obtain ⟨a, h⟩ := s.raiseFlag_changes n
  rw [h]
  exact .of_same rfl rfl

theorem State.follows_settle (s : State) : s.Follows s.settle := by
  obtain ⟨c, m, u, rx, q, h⟩ := s.settle_changes
  rw [h]
  exact .of_same rfl rfl

theorem State.follows_refuseHead (s : State) (r : Refused) : s.Follows (s.refuseHead r) := by
  obtain ⟨c, m, u, rx, h⟩ := s.refuseHead_changes r
  rw [h]
  exact .of_same rfl rfl

theorem State.follows_passHead (s : State) (p : Down) : s.Follows (s.passHead p) := by
  obtain ⟨c, m, u, rx, q, h⟩ := s.passHead_changes p
  rw [h]
  exact .of_same rfl rfl

theorem State.follows_loseLower (s : State) (next : Port → Port) : s.Follows (s.loseLower next) := by
  obtain ⟨l, rx, q, c, m, u, urx, a, h⟩ := s.loseLower_changes next
  rw [h]
  exact .of_same rfl rfl


/-! ### The tap exchange -/

theorem State.follows_present {s : State} {t : Fin 4} {i : Fin 16} {q r : TransRecord} (hq : s.transAt i = some q)
    (hc : r.claim = q.claim) : s.Follows (s.present t i r) :=
  (State.follows_setTrans (r := { r with state := .issued, waitRemaining := none }) hq hc).trans (.of_same rfl rfl)

theorem State.follows_issue {s : State} {t : Fin 4} {i : Fin 16} {q r : TransRecord} (hq : s.transAt i = some q)
    (hc : r.claim = q.claim) : s.Follows (s.issue t i r) :=
  (State.follows_present hq hc).trans (State.follows_modTap _ t _)

theorem State.follows_examine (s : State) (t : Fin 4) : s.Follows (s.examine t) := by
  unfold State.examine
  split
  · exact .refl s
  split
  · exact .refl s
  next r hr =>
    split
    · exact (State.follows_setTrans (r := { r with state := .held }) hr rfl).trans
        ((State.follows_modTap _ t _).trans (State.follows_raiseFlag _ _))
    · exact State.follows_issue hr rfl

theorem State.follows_reissue (s : State) (t : Fin 4) : s.Follows (s.reissue t) := by
  unfold State.reissue
  split
  · exact .refl s
  split
  · exact .refl s
  next r hr => exact (State.follows_present hr rfl).trans (State.follows_modTap _ t _)

theorem State.follows_completeDisable (s : State) (t : Fin 4) : s.Follows (s.completeDisable t) :=
  (State.follows_answerAll _ _ s).trans ((State.follows_modTap _ t _).trans (State.follows_finishExecuting _ _ _ _))

theorem State.follows_leaveIssued (s : State) (t : Fin 4) : s.Follows (s.leaveIssued t) := by
  unfold State.leaveIssued
  split
  · exact s.follows_completeDisable t
  · exact s.follows_modTap t _

theorem State.follows_dequeue_freeRecord (s : State) (t : Fin 4) (i : Fin 16) :
    s.Follows ((s.dequeue t i).freeRecord i) :=
  (s.follows_modTap t _).trans (State.follows_freeRecord _ i)

theorem State.follows_endIssued (s : State) (t : Fin 4) (i : Fin 16) (r : TransRecord) (code : Code)
    (data : Option (List Word)) : s.Follows (s.endIssued t i r code data) := by
  unfold State.endIssued
  split
  · exact s.follows_dequeue_freeRecord t i
  · exact s.follows_answer i code data

theorem State.follows_takeAck (s : State) (t : Fin 4) (kind : AckKind) (words : List Word) :
    s.Follows (s.takeAck t kind words) := by
  unfold State.takeAck
  split
  · exact .refl s
  next i _ _ =>
    split
    · exact .refl s
    next r hr =>
      have hclose : s.Follows (s.closeExchange t) := s.follows_modTap t _
      dsimp only
      split
      · exact hclose.trans ((State.follows_dequeue_freeRecord _ t i).trans (State.follows_leaveIssued _ t))
      · split
        · exact hclose.trans ((State.follows_answer _ i _ _).trans (State.follows_leaveIssued _ t))
        · have hr' : (s.closeExchange t).transAt i = some r := hr
          exact hclose.trans ((State.follows_setTrans
            (r := { r with state := .retryWait, retryCount := r.retryCount + 1 }) hr' rfl).trans
              (State.follows_modTap _ t _))

theorem State.follows_takeStrobe (s : State) (t : Fin 4) (k : BitVec 2) : s.Follows (s.takeStrobe t k) := by
  unfold State.takeStrobe
  split
  · exact s.follows_modTap t _
  · split
    · split
      · exact s.follows_modTap t _
      · exact s.follows_takeAck t _ _
    · exact s.follows_takeAck t _ _

theorem State.follows_riseOfAck (s : State) (t : Fin 4) (k : BitVec 2) : s.Follows (s.riseOfAck t k) := by
  unfold State.riseOfAck
  split
  · exact s.follows_modTap t _
  · exact s.follows_takeStrobe t k

theorem State.follows_takeRises (t : Fin 4) (l : List (BitVec 2)) : ∀ s : State, s.Follows (s.takeRises t l) := by
  induction l with
  | nil => exact State.Follows.refl
  | cons k rest ih =>
    intro s
    unfold State.takeRises
    split
    · exact (s.follows_modTap t _).trans ((State.follows_takeStrobe _ t k).trans (ih _))
    · exact .refl s

theorem State.follows_releaseData (s : State) (t : Fin 4) : s.Follows (s.releaseData t) := by
  unfold State.releaseData
  split
  · exact (s.follows_modTap t _).trans (State.follows_takeRises t _ _)
  · exact .refl s

theorem State.follows_takeDones (t : Fin 4) (l : List Transfer) :
    ∀ s : State, s.Follows (l.foldl (fun c x => c.takeDone t x) s) := by
  induction l with
  | nil => exact State.Follows.refl
  | cons x rest ih =>
    intro s
    have hx : s.Follows (s.takeDone t x) := by
      unfold State.takeDone
      split
      · exact s.follows_takeAck t _ _
      · exact s.follows_modTap t _
    exact hx.trans (ih _)

theorem State.follows_takeByte (s : State) (t : Fin 4) (b : Byte) : s.Follows (s.takeByte t b) := by
  unfold State.takeByte
  dsimp only
  split
  · exact (s.follows_modTap t _).trans ((State.follows_takeDones t _ _).trans (State.follows_examine _ t))
  · exact (s.follows_modTap t _).trans (State.follows_takeDones t _ _)

theorem State.follows_faultTap (s : State) (t : Fin 4) : s.Follows (s.faultTap t) := by
  unfold State.faultTap
  split
  · exact s.follows_completeDisable t
  · exact (State.follows_answerAll _ _ s).trans (State.follows_modTap _ t _)

theorem State.follows_timeOut (s : State) (t : Fin 4) : s.Follows (s.timeOut t) := by
  unfold State.timeOut
  split
  · exact .refl s
  next i _ _ =>
    split
    · exact .refl s
    · exact (s.follows_modTap t _).trans ((State.follows_modTap _ t _).trans
        ((State.follows_endIssued _ t i _ _ _).trans
          ((State.follows_faultTap _ t).trans (State.follows_raiseFlag _ _))))

theorem State.follows_sampleLine (s : State) (t : Fin 4) (line : LineId) (level : Bool) :
    s.Follows (s.sampleLine t line level) := by
  unfold State.sampleLine
  split
  · exact .refl s
  dsimp only
  split
  · exact (s.follows_modTap t _).trans (State.follows_raiseFlag _ _)
  · exact s.follows_modTap t _

/-! ### Branch reset and link losses -/

theorem RecordTable.count_empty (f : TransRecord → Bool) : RecordTable.empty.count f = 0 := by
  simp [RecordTable.count_eq_countP, RecordTable.empty, Vector.countP_replicate]

theorem RecordTable.trans_empty (i : Fin 16) : RecordTable.empty.trans[i] = none := by
  simp [RecordTable.empty]

theorem State.bank_branchReset (s : State) (b : BankId) : s.branchReset.bank b = (s.bank b).atBranchReset := by
  cases b <;> rfl

/-- A branch reset frees every record and zeroes the reference counts (R25, R67). -/
theorem State.follows_branchReset (s : State) : s.Follows s.branchReset where
  selector := rfl
  state b := by rw [s.bank_branchReset]; rfl
  contents b := by rw [s.bank_branchReset, Bank.contents_atBranchReset]
  records i r hr := absurd ((RecordTable.trans_empty i).symm.trans hr) (by simp)
  refs _ b := by
    rw [s.bank_branchReset]
    exact (RecordTable.count_empty _).symm

theorem State.bank_endSession (s : State) (b : BankId) :
    s.endSession.bank b = { s.bank b with refs := (s.bank b).refs - s.records.lostNaming b } := by
  cases b <;> rfl

/-- Of the records that name a bank, an upper link loss frees some and leaves the others (R63). -/
theorem RecordTable.count_atUpperLoss (t : RecordTable) (b : BankId) :
    t.atUpperLoss.count (fun r => r.bank == b) + t.lostNaming b = t.count fun r => r.bank == b := by
  have hsum : ∀ l : List (Option TransRecord),
      l.countP (fun o => (transAtUpperLoss o).any fun r => r.bank == b)
        + l.countP (fun o => o.any fun r => r.bank == b && r.lostAtUpperLoss)
        = l.countP fun o => o.any fun r => r.bank == b := by
    intro l
    induction l with
    | nil => rfl
    | cons o l ih =>
      simp only [List.countP_cons, ← ih]
      rcases o with _ | r
      · simp [transAtUpperLoss]
      · by_cases hb : r.bank = b <;> by_cases hl : r.lostAtUpperLoss = true <;>
          simp [transAtUpperLoss, hb, hl] <;> omega
  have hlost : t.lostNaming b = t.trans.toList.countP fun o => o.any fun r => r.bank == b && r.lostAtUpperLoss := by
    unfold RecordTable.lostNaming
    congr 1
    funext o
    cases o <;> rfl
  have hkept : t.atUpperLoss.count (fun r => r.bank == b)
      = t.trans.toList.countP fun o => (transAtUpperLoss o).any fun r => r.bank == b := by
    rw [RecordTable.count_eq_countP, RecordTable.atUpperLoss, Vector.countP_map, Vector.countP_toList]
    rfl
  rw [hkept, hlost, RecordTable.count_eq_countP, ← Vector.countP_toList]
  exact hsum _

/-- An upper link loss frees records with their references, and makes orphans of the issued ones (R61, R63, R64). -/
theorem State.follows_endSession (s : State) : s.Follows s.endSession where
  selector := rfl
  state b := by rw [s.bank_endSession]
  contents b := by rw [s.bank_endSession]; rfl
  records i r hr := by
    have ht : s.endSession.transAt i = transAtUpperLoss (s.transAt i) := by
      simp [State.transAt, State.endSession, RecordTable.atUpperLoss]
    rw [ht] at hr
    cases hq : s.transAt i with
    | none => simp [hq, transAtUpperLoss] at hr
    | some q =>
      rw [hq, transAtUpperLoss] at hr
      split at hr
      · exact absurd hr (by simp)
      · cases hr
        exact ⟨q, rfl, rfl⟩
  refs hs b := by
    have hsum := s.records.count_atUpperLoss b
    have hrec : s.endSession.records = s.records.atUpperLoss := rfl
    rw [s.bank_endSession, hrec]
    simp only [hs b]
    omega

theorem State.follows_loseUpper (s : State) : s.Follows s.loseUpper := by
  unfold State.loseUpper
  split
  · exact s.follows_endSession.trans (State.follows_branchReset _)
  · exact s.follows_endSession

theorem State.follows_loseLink (s : State) (p : PortId) : s.Follows (s.loseLink p) := by
  cases p
  · exact s.follows_loseUpper
  · exact s.follows_loseLower _

/-! ### The trunk link -/

theorem State.follows_failCheck (s : State) (p : PortId) : s.Follows (s.failCheck p) := by
  unfold State.failCheck
  dsimp only
  split
  · exact (s.follows_modPort p _).trans (State.follows_loseLink _ p)
  · exact s.follows_modPort p _

theorem State.follows_receiveUpper (s : State) (chars : List PacketChar) : s.Follows (s.receiveUpper chars) := by
  unfold State.receiveUpper
  split
  · exact s.follows_failCheck .upper
  · exact s.follows_modPort .upper _
  · exact s.follows_modPort .upper _
  · exact .of_same rfl rfl

theorem State.follows_relay (s : State) (u : Up) : s.Follows (s.relay u) := by
  unfold State.relay
  dsimp only
  split
  · exact .of_same rfl rfl
  · split <;> exact .of_same rfl rfl

theorem State.follows_receiveLower (s : State) (chars : List PacketChar) : s.Follows (s.receiveLower chars) := by
  unfold State.receiveLower
  split
  · exact s.follows_failCheck .lower
  · exact s.follows_modPort .lower _
  · exact s.follows_modPort .lower _
  · exact s.follows_relay _

theorem State.follows_receivePacket (s : State) (p : PortId) (chars : List PacketChar) :
    s.Follows (s.receivePacket p chars) := by
  unfold State.receivePacket
  split
  · exact .refl s
  have hheard : s.Follows (s.modPort p Port.heard) := s.follows_modPort p _
  dsimp only
  split
  · exact hheard.trans (State.follows_modPort _ p _)
  · cases p
    · exact hheard.trans (State.follows_receiveUpper _ chars)
    · exact hheard.trans (State.follows_receiveLower _ chars)

theorem State.follows_completeTraining (s : State) (p : PortId) : s.Follows (s.completeTraining p) := by
  unfold State.completeTraining
  split
  · cases p
    · exact (s.follows_modPort .upper _).trans (State.follows_announceIfDue _)
    · exact (s.follows_modPort .lower _).trans (State.follows_raiseFlag _ _)
  · exact .refl s

theorem State.follows_receiveHello (s : State) (p : PortId) (capacity : Nat) (ready : Bool) :
    s.Follows (s.receiveHello p capacity ready) := by
  unfold State.receiveHello
  split
  · exact .refl s
  · split
    · exact s.follows_modPort p _
    · exact (s.follows_modPort p _).trans (State.follows_completeTraining _ p)
  · split
    · exact s.follows_modPort p _
    · exact s.follows_loseLink p

theorem State.follows_sendMgmtResponse (s : State) : s.Follows s.sendMgmtResponse := by
  unfold State.sendMgmtResponse
  split
  · exact .refl s
  split
  · exact .refl s
  split
  · exact .refl s
  dsimp only
  split
  · refine State.Follows.trans ?_ (State.follows_branchReset _)
    exact .of_same rfl rfl
  · exact .of_same rfl rfl

theorem State.follows_sendLocalResponse (s : State) : s.Follows s.sendLocalResponse := by
  unfold State.sendLocalResponse
  split
  · exact .refl s
  next i _ _ =>
    split
    · exact .refl s
    next r _ =>
      have hsent : s.Follows (s.transmitUp r.packet) := .of_same rfl rfl
      exact (hsent.trans (State.follows_freeRecord _ i)).trans (.of_same rfl rfl)

theorem State.follows_sendRefusal (s : State) : s.Follows s.sendRefusal := by
  unfold State.sendRefusal
  split
  · exact .refl s
  · refine State.Follows.trans ?_ (State.follows_settle _)
    exact .of_same rfl rfl

theorem State.follows_sendRelay (s : State) : s.Follows s.sendRelay := by
  unfold State.sendRelay
  split
  · exact .refl s
  · exact .of_same rfl rfl

theorem State.follows_arbitrate (s : State) : s.Follows s.arbitrate := by
  unfold State.arbitrate
  split
  · exact .of_same rfl rfl
  split
  · exact s.follows_sendMgmtResponse
  · exact s.follows_sendLocalResponse
  · exact s.follows_sendRefusal
  · exact s.follows_sendRelay
  · exact .refl s

/-! ### The time base -/

theorem TransRecord.claim_step (taps : Vector Tap 4) (r : TransRecord) : (r.step taps).claim = r.claim := by
  unfold TransRecord.step
  split <;> rfl

theorem State.follows_tick (s : State) : s.Follows s.tick := by
  unfold State.tick
  split
  · exact .refl s
  · refine .of_claims rfl fun i => ?_
    simp only [State.transAt, Fin.getElem_fin, Vector.getElem_map]
    cases s.records.trans[i.val] <;> simp [TransRecord.claim_step]


/-! ### Management operations -/

/-- The state in which an operation's body leaves the part that stood in `s`. -/
def Begun.state (s : State) : Begun → State
  | .refuse _ => s
  | .done _ t => t
  | .span t => t

@[simp] theorem Begun.state_refuse (s : State) (code : Code) : (Begun.refuse code).state s = s := rfl

@[simp] theorem Begun.state_done (s t : State) (result : List Word) : (Begun.done result t).state s = t := rfl

@[simp] theorem Begun.state_span (s t : State) : (Begun.span t).state s = t := rfl

/-- To begin an operation is to do what its body does, but for the management records, or to do nothing (R129, R130). -/
theorem State.begin_around (s : State) (op : Op) (body : State → List Word → Begun) :
    ∃ u v, s.Follows u ∧ (v = u ∨ ∃ ws, v = (body u ws).state u) ∧ v.Follows (s.begin op body) := by
  unfold State.begin
  split
  next i r _ =>
    have hstart : s.Follows (s.startMgmt i r) := .of_same rfl rfl
    split
    · dsimp only
      split
      · refine ⟨_, _, hstart, .inr ⟨r.operands, rfl⟩, ?_⟩
        cases body (s.startMgmt i r) r.operands with
        | refuse code => exact State.follows_finishMgmt _ _ _ _
        | done result t => exact State.follows_finishMgmt _ _ _ _
        | span t => exact .refl _
      · exact ⟨_, _, hstart, .inl rfl, State.follows_finishMgmt _ _ _ _⟩
    · exact ⟨s, s, .refl s, .inl rfl, .refl s⟩
  · exact ⟨s, s, .refl s, .inl rfl, .refl s⟩

/-- An operation whose body keeps the banks and the claims. -/
theorem State.follows_begin {op : Op} {body : State → List Word → Begun}
    (hbody : ∀ (u : State) ws, u.Follows ((body u ws).state u)) (s : State) : s.Follows (s.begin op body) := by
  obtain ⟨u, v, hu, hv, ht⟩ := s.begin_around op body
  obtain rfl | ⟨ws, rfl⟩ := hv
  · exact hu.trans ht
  · exact hu.trans ((hbody u ws).trans ht)

/-- An operation whose body reads and changes nothing. -/
theorem State.follows_begin_reading {op : Op} {body : State → List Word → Begun}
    (hbody : ∀ (u : State) ws, (body u ws).state u = u) (s : State) : s.Follows (s.begin op body) :=
  State.follows_begin (fun u ws => by rw [hbody]; exact .refl u) s

/-! ### The operations that only read -/

theorem readRecordBody_reads (s : State) (ws : List Word) : (readRecordBody s ws).state s = s := by
  unfold readRecordBody
  repeat' split
  all_goals rfl

theorem readEntryBody_reads (s : State) (ws : List Word) : (readEntryBody s ws).state s = s := by
  unfold readEntryBody
  repeat' split
  all_goals rfl

theorem readTapStatusBody_reads (s : State) (ws : List Word) : (readTapStatusBody s ws).state s = s := by
  unfold readTapStatusBody
  repeat' split
  all_goals rfl

theorem readWatchBody_reads (s : State) (ws : List Word) : (readWatchBody s ws).state s = s := by
  unfold readWatchBody
  repeat' split
  all_goals rfl

theorem heldData_reads (s : State) (r : TransRecord) (start : Nat) : (heldData s r start).state s = s := by
  unfold heldData
  repeat' split
  all_goals rfl

theorem readHeldRequestBody_reads (s : State) (ws : List Word) : (readHeldRequestBody s ws).state s = s := by
  unfold readHeldRequestBody
  split
  · split
    · split
      · rfl
      split
      · rfl
      split
      · exact heldData_reads s _ _
      · rfl
    · rfl
  · rfl

theorem readParameterBody_reads (s : State) (ws : List Word) : (readParameterBody s ws).state s = s := by
  unfold readParameterBody
  repeat' split
  all_goals rfl

/-- The beginning of a Verify Bank judges nothing yet (R133). -/
theorem verifyBankBody_reads (s : State) (ws : List Word) : (verifyBankBody s ws).state s = s := by
  unfold verifyBankBody
  repeat' split
  all_goals rfl

/-! ### The operations that leave the tables to others -/

theorem State.follows_readCountersBody (s : State) (ws : List Word) : s.Follows ((readCountersBody s ws).state s) := by
  unfold readCountersBody
  repeat' split
  all_goals simp only [Begun.state_refuse, Begun.state_done]
  · split
    · unfold State.clearGroup
      split
      · exact s.follows_modPort _ _
      · exact s.follows_modTap _ _
      · exact .of_same rfl rfl
    · exact .refl s
  all_goals exact .refl s

theorem State.follows_applyEnable (s : State) (before after : Bool) : s.Follows (s.applyEnable before after) := by
  unfold State.applyEnable
  split
  · exact .refl s
  split
  · exact .of_same rfl rfl
  split
  · exact s.follows_loseLower _
  · exact .of_same rfl rfl

theorem State.follows_setParameterBody (s : State) (ws : List Word) : s.Follows ((setParameterBody s ws).state s) := by
  unfold setParameterBody
  split
  · split
    · exact .refl s
    · dsimp only
      split
      · refine State.Follows.trans ?_ (State.follows_applyEnable _ _ _)
        exact .of_same rfl rfl
      · exact .refl s
  · exact .refl s

theorem State.follows_branchResetBody (s : State) (ws : List Word) : s.Follows ((branchResetBody s ws).state s) :=
  .of_same rfl rfl

theorem State.follows_tapEnableBody (s : State) (ws : List Word) : s.Follows ((tapEnableBody s ws).state s) := by
  unfold tapEnableBody
  repeat' split
  all_goals exact .of_same rfl rfl

theorem State.follows_tapRecoverBody (s : State) (ws : List Word) : s.Follows ((tapRecoverBody s ws).state s) := by
  unfold tapRecoverBody
  repeat' split
  all_goals exact .of_same rfl rfl

theorem State.follows_setTapLinesBody (s : State) (ws : List Word) : s.Follows ((setTapLinesBody s ws).state s) := by
  unfold setTapLinesBody
  repeat' split
  all_goals exact .of_same rfl rfl

theorem State.follows_disableAtOnce (s : State) (t : Fin 4) : s.Follows (s.disableAtOnce t) :=
  (State.follows_answerAll _ _ s).trans (State.follows_modTap _ t _)

theorem State.follows_tapDisableBody (s : State) (ws : List Word) : s.Follows ((tapDisableBody s ws).state s) := by
  unfold tapDisableBody
  split
  · split
    · exact .refl s
    next t _ =>
      split
      · exact s.follows_modTap t fun p => { p with disablePending := true }
      · exact .refl s
      all_goals exact s.follows_disableAtOnce t
  · exact .refl s

theorem State.follows_setWatchBody (s : State) (ws : List Word) : s.Follows ((setWatchBody s ws).state s) := by
  unfold setWatchBody
  repeat' split
  all_goals exact .of_same rfl rfl

theorem State.follows_disarmWatchBody (s : State) (ws : List Word) : s.Follows ((disarmWatchBody s ws).state s) := by
  unfold disarmWatchBody
  repeat' split
  all_goals exact .of_same rfl rfl

/-- The held record is the record of its place. -/
theorem State.transAt_of_heldRecord {s : State} {t : Fin 4} {i : Fin 16} {r : TransRecord}
    (h : s.heldRecord? t = some (i, r)) : s.transAt i = some r := by
  unfold State.heldRecord? at h
  split at h
  · split at h
    · exact absurd h (by simp)
    · obtain ⟨q, hq, he⟩ := Option.map_eq_some_iff.1 h
      cases he
      exact hq
  · exact absurd h (by simp)

theorem State.follows_releaseHoldBody (s : State) (ws : List Word) : s.Follows ((releaseHoldBody s ws).state s) := by
  unfold releaseHoldBody
  split
  · split
    · exact .refl s
    · split
      · exact .refl s
      next hr => exact State.follows_issue (State.transAt_of_heldRecord hr) rfl
  · exact .refl s

theorem State.follows_discardHoldBody (s : State) (ws : List Word) : s.Follows ((discardHoldBody s ws).state s) := by
  unfold discardHoldBody
  split
  · split
    · exact .refl s
    · split
      · exact .refl s
      next i _ _ =>
        refine (s.follows_answer i .discarded none).trans ?_
        exact .of_same rfl rfl
  · exact .refl s

theorem State.follows_readAttentionBody (s : State) (ws : List Word) :
    s.Follows ((readAttentionBody s ws).state s) := by
  unfold readAttentionBody
  split
  · split
    · exact .refl s
    · dsimp only [Begun.state_done]
      split
      · exact .of_same rfl rfl
      · exact .refl s
  · exact .refl s

theorem State.follows_clearAttentionBody (s : State) (ws : List Word) :
    s.Follows ((clearAttentionBody s ws).state s) := by
  unfold clearAttentionBody
  repeat' split
  all_goals exact .of_same rfl rfl

theorem State.follows_modAttention_announceIfDue (s : State) (f : Attention → Attention) :
    s.Follows (s.modAttention f).announceIfDue := by
  refine State.Follows.trans ?_ (State.follows_announceIfDue _)
  exact .of_same rfl rfl

theorem State.follows_setAttentionEnablesBody (s : State) (ws : List Word) :
    s.Follows ((setAttentionEnablesBody s ws).state s) := by
  unfold setAttentionEnablesBody
  split
  · split
    · exact s.follows_modAttention_announceIfDue _
    · exact .refl s
  · exact .refl s

theorem State.follows_acknowledgeAttentionBody (s : State) (ws : List Word) :
    s.Follows ((acknowledgeAttentionBody s ws).state s) := by
  unfold acknowledgeAttentionBody
  split
  · split
    · exact .refl s
    · split
      · exact .refl s
      · exact s.follows_modAttention_announceIfDue _
  · exact .refl s

/-- One bank changed: what each bank is afterwards. -/
theorem State.bank_modBank (s : State) (b c : BankId) (f : Bank → Bank) :
    (s.modBank b f).bank c = if c = b then f (s.bank c) else s.bank c := by
  by_cases h : c = b
  · subst h
    simp
  · rw [s.bank_modBank_ne h, if_neg h]

/-- A bank changed in its hit counts alone. -/
theorem State.follows_modBank {s : State} {b : BankId} {f : Bank → Bank} (hstate : (f (s.bank b)).state = (s.bank b).state)
    (hcontents : (f (s.bank b)).contents = (s.bank b).contents) (hrefs : (f (s.bank b)).refs = (s.bank b).refs) :
    s.Follows (s.modBank b f) where
  selector := s.selector_modBank b f
  state c := by
    by_cases h : c = b
    · subst h
      simpa using hstate
    · rw [s.bank_modBank_ne h]
  contents c := by
    by_cases h : c = b
    · subst h
      simpa using hcontents
    · rw [s.bank_modBank_ne h]
  records _ r hr := ⟨r, hr, rfl⟩
  refs hs c := by
    have hc : ((s.modBank b f).bank c).refs = (s.bank c).refs := by
      by_cases h : c = b
      · subst h
        simpa using hrefs
      · rw [s.bank_modBank_ne h]
    rw [hc]
    exact hs c

/-- Clear Hit Counts leaves all of a bank but the hit counts (R21). -/
theorem State.follows_clearHitCountsBody (s : State) (ws : List Word) :
    s.Follows ((clearHitCountsBody s ws).state s) := by
  unfold clearHitCountsBody
  split
  · split
    · exact .refl s
    next b _ =>
      rw [Begun.state_done]
      exact State.follows_modBank rfl (Bank.contents_clearHits (s.bank b)) rfl
  · exact .refl s

/-! ### The commands that keep banks and claims -/

/-- What a taken effect leads to. -/
theorem State.eq_of_taken {s u t : State} (h : s.taken u = .next t) : t = if s.resetLow then s else u := by
  unfold State.taken at h
  cases h
  rfl

theorem State.Follows.of_taken {s u t : State} (h : s.taken u = .next t) (hu : s.Follows u) : s.Follows t := by
  rw [State.eq_of_taken h]
  split
  · exact .refl s
  · exact hu

/-- The commands that allocate a record, change the contents or the state of a bank, or make the part anew. -/
def remakesTables : Instr → Bool
  | .powerUpReset | .classifyPacket | .writeEntry | .clearBank | .setMissAction | .verifyBankComplete | .openBank
  | .selectBank => true
  | _ => false

/-- Every other command keeps the banks but for hit counts, and keeps or frees records. -/
theorem State.follows_exec {c : Instr} {s t : State} (hc : remakesTables c = false) (h : exec c s = .next t) :
    s.Follows t := by
  cases c with
  | powerUpReset | classifyPacket | writeEntry | clearBank | setMissAction | verifyBankComplete | openBank
  | selectBank => simp [remakesTables] at hc
  | resetAsserted => cases h; exact .of_same rfl rfl
  | packetReceived port chars => exact .of_taken h (s.follows_receivePacket port chars)
  | helloReceived port payload =>
    refine .of_taken h ?_
    split
    · exact s.follows_receiveHello port _ _
    · exact s.follows_modPort port _
  | creditReceived port payload =>
    refine .of_taken h ?_
    split <;> exact s.follows_modPort port _
  | idleReceived port payload =>
    refine .of_taken h ?_
    split <;> exact s.follows_modPort port _
  | damagedSymbolReceived port => exact .of_taken h (s.follows_modPort port _)
  | helloPeriod port =>
    refine .of_taken h ?_
    split
    · exact (s.follows_modPort port _).trans (State.follows_completeTraining _ port)
    · exact .refl s
  | trainingRestart port =>
    refine .of_taken h ?_
    split
    · exact s.follows_modPort port _
    · exact .refl s
  | silenceTimeout port =>
    refine .of_taken h ?_
    split
    · exact s.follows_loseLink port
    · exact .refl s
  | sendCredit port =>
    refine .of_taken h ?_
    split
    · exact s.follows_modPort port _
    · exact .refl s
  | lowerSend =>
    refine .of_taken h ?_
    split
    · exact .refl s
    · split
      · refine State.Follows.trans ?_ (State.follows_settle _)
        exact .of_same rfl rfl
      · exact .refl s
  | arbiterSend =>
    refine .of_taken h ?_
    split
    · exact s.follows_arbitrate
    · exact .refl s
  | examineHead tap =>
    refine .of_taken h ?_
    split
    · exact s.follows_examine tap
    · exact .refl s
  | tapAcknowledge tap input =>
    refine .of_taken h ?_
    cases input with
    | strobe k => exact s.follows_riseOfAck tap k
    | dataByte b => exact s.follows_takeByte tap b
    | release => exact s.follows_releaseData tap
  | ackTimeout tap =>
    refine .of_taken h ?_
    split
    · exact s.follows_timeOut tap
    · exact .refl s
  | retryTimerExpiry tap =>
    refine .of_taken h ?_
    split
    · exact s.follows_reissue tap
    · exact .refl s
  | waitTimerExpiry index =>
    refine .of_taken h ?_
    split
    · exact .refl s
    · split
      · exact (s.follows_answer index _ _).trans (State.follows_modTap _ _ _)
      · exact .refl s
  | attentionLineAsserted tap line => exact .of_taken h (s.follows_sampleLine tap line true)
  | attentionLineReleased tap line => exact .of_taken h (s.follows_sampleLine tap line false)
  | reAnnounce =>
    refine .of_taken h ?_
    split
    · split
      · exact .of_same rfl rfl
      · exact .refl s
    · exact .refl s
  | unknownOperation =>
    refine .of_taken h ?_
    split
    next i r _ =>
      have hstart : s.Follows (s.startMgmt i r) := .of_same rfl rfl
      split
      · exact .refl s
      · exact hstart.trans (State.follows_finishMgmt _ _ _ _)
    · exact .refl s
  | readIdentity => exact .of_taken h (State.follows_begin_reading (fun _ _ => rfl) s)
  | readBranchStatus => exact .of_taken h (State.follows_begin_reading (fun _ _ => rfl) s)
  | readRecord => exact .of_taken h (State.follows_begin_reading readRecordBody_reads s)
  | readCounters => exact .of_taken h (State.follows_begin State.follows_readCountersBody s)
  | readEntry => exact .of_taken h (State.follows_begin_reading readEntryBody_reads s)
  | verifyBank => exact .of_taken h (State.follows_begin_reading verifyBankBody_reads s)
  | clearHitCounts => exact .of_taken h (State.follows_begin State.follows_clearHitCountsBody s)
  | tapEnable => exact .of_taken h (State.follows_begin State.follows_tapEnableBody s)
  | tapDisable => exact .of_taken h (State.follows_begin State.follows_tapDisableBody s)
  | tapRecover => exact .of_taken h (State.follows_begin State.follows_tapRecoverBody s)
  | setTapLines => exact .of_taken h (State.follows_begin State.follows_setTapLinesBody s)
  | readTapStatus => exact .of_taken h (State.follows_begin_reading readTapStatusBody_reads s)
  | setWatch => exact .of_taken h (State.follows_begin State.follows_setWatchBody s)
  | disarmWatch => exact .of_taken h (State.follows_begin State.follows_disarmWatchBody s)
  | readWatch => exact .of_taken h (State.follows_begin_reading readWatchBody_reads s)
  | releaseHold => exact .of_taken h (State.follows_begin State.follows_releaseHoldBody s)
  | discardHold => exact .of_taken h (State.follows_begin State.follows_discardHoldBody s)
  | readHeldRequest => exact .of_taken h (State.follows_begin_reading readHeldRequestBody_reads s)
  | readAttention => exact .of_taken h (State.follows_begin State.follows_readAttentionBody s)
  | clearAttention => exact .of_taken h (State.follows_begin State.follows_clearAttentionBody s)
  | setAttentionEnables => exact .of_taken h (State.follows_begin State.follows_setAttentionEnablesBody s)
  | acknowledgeAttention => exact .of_taken h (State.follows_begin State.follows_acknowledgeAttentionBody s)
  | setParameter => exact .of_taken h (State.follows_begin State.follows_setParameterBody s)
  | readParameter => exact .of_taken h (State.follows_begin_reading readParameterBody_reads s)
  | branchReset => exact .of_taken h (State.follows_begin State.follows_branchResetBody s)


/-! ### Lookup and verification, entry by entry -/

/-- The lowest index that satisfies a condition. -/
theorem find?_finRange_eq_some {n : Nat} {p : Fin n → Bool} {i : Fin n} :
    (List.finRange n).find? p = some i ↔ p i = true ∧ ∀ j < i, p j = false := by
  rw [← Fin.find?_eq_find?_finRange]
  exact Fin.find?_eq_some_iff

theorem find?_finRange_eq_none {n : Nat} {p : Fin n → Bool} :
    (List.finRange n).find? p = none ↔ ∀ j, p j = false := by
  rw [← Fin.find?_eq_find?_finRange]
  exact Fin.find?_eq_none_iff

/-- Entry `e` of the bank is valid and its range holds the address (R3). -/
def Bank.Holds (b : Bank) (e : Fin 32) (a : Word) : Prop :=
  ∃ w, b.entries[e] = some w ∧ w.covers a = true

theorem Window.covers_iff (w : Window) (a : Word) :
    w.covers a = true ↔ w.base.toNat ≤ a.toNat ∧ a.toNat < w.base.toNat + 2 ^ w.sizeExponent := by
  unfold Window.covers Window.size
  exact decide_eq_true_iff

/-- Lookup by the condition on one position. -/
theorem Bank.match?_eq (b : Bank) (a : Word) :
    b.match? a = (List.finRange 32).find? fun e => b.entries[e].any fun w => w.covers a := by
  unfold Bank.match?
  congr 1
  funext e
  cases b.entries[e] <;> rfl

theorem Bank.holds_iff {b : Bank} {e : Fin 32} {a : Word} :
    b.Holds e a ↔ (b.entries[e].any fun w => w.covers a) = true := by
  unfold Bank.Holds
  cases b.entries[e] <;> simp

/-- Lookup takes the lowest-indexed entry that holds the address (R3). -/
theorem Bank.match?_eq_some_iff {b : Bank} {a : Word} {e : Fin 32} :
    b.match? a = some e ↔ b.Holds e a ∧ ∀ j < e, ¬ b.Holds j a := by
  simp only [Bank.match?_eq, find?_finRange_eq_some, Bank.holds_iff, Bool.not_eq_true]

theorem Bank.match?_eq_none_iff {b : Bank} {a : Word} : b.match? a = none ↔ ∀ j, ¬ b.Holds j a := by
  simp only [Bank.match?_eq, find?_finRange_eq_none, Bank.holds_iff, Bool.not_eq_true]

/-- The entry that lookup takes holds the address (R3). -/
theorem Bank.covers_of_match? {b : Bank} {a : Word} {e : Fin 32} {w : Window} (h : b.match? a = some e)
    (hw : b.entries[e] = some w) : w.covers a = true := by
  obtain ⟨⟨x, hx, hc⟩, -⟩ := Bank.match?_eq_some_iff.1 h
  rw [hw] at hx
  cases hx
  exact hc

/-- Every valid entry of a bank without a failing one passes the checks (R14). -/
theorem Bank.firstFailing_eq_none_iff {b : Bank} :
    b.firstFailing = none ↔ ∀ (e : Fin 32) (w : Window), b.entries[e] = some w → w.verify = none := by
  unfold Bank.firstFailing
  rw [List.findSome?_eq_none_iff]
  constructor
  · intro h e w hw
    simpa [hw] using h e (List.mem_finRange e)
  · intro h e _
    cases hw : b.entries[e] with
    | none => rfl
    | some w => simp [h e w hw]

/-- A CLAIM entry that passes the checks names its tap and its local base (R15). -/
theorem Window.claim_of_verify {w : Window} (h : w.verify = none) (ha : w.action = .claim) :
    ∃ k l, w.tap = some k ∧ w.localBase = some l := by
  cases hk : w.tap with
  | none => simp [Window.verify, ha, hk] at h
  | some k =>
    cases hl : w.localBase with
    | none => simp [Window.verify, ha, hl] at h
    | some l => exact ⟨k, l, rfl, rfl⟩

/-! ### What the bank operations can do -/

/-- The changes of the window tables that the bank operations make, with what each finds before it (R11 to R19). -/
inductive State.BankChange (s : State) : State → Prop
  | none : s.BankChange s
  | edit (b : BankId) (f : Bank → Bank) (hopen : (s.bank b).state = .opened)
      (hstate : (f (s.bank b)).state = (s.bank b).state) (hrefs : (f (s.bank b)).refs = (s.bank b).refs) :
      s.BankChange (s.modBank b f)
  | verify (b : BankId) (hopen : (s.bank b).state = .opened) (hpass : (s.bank b).firstFailing = .none) :
      s.BankChange (s.modBank b fun x => { x with state := .verified })
  | reopen (b : BankId) (hver : (s.bank b).state = .verified) (hfree : (s.bank b).refs = 0) :
      s.BankChange (s.modBank b fun x => { x with state := .opened })
  | select (b : BankId) (hver : (s.bank b).state = .verified) : s.BankChange { s with windows := s.windows.select b }
  | deselect : s.BankChange { s with windows := s.windows.selectNone }

theorem bankChange_writeEntryBody (s : State) (ws : List Word) : s.BankChange ((writeEntryBody s ws).state s) := by
  unfold writeEntryBody
  split
  · split
    · exact .none
    · split
      next ho =>
        rw [Begun.state_done]
        exact .edit _ _ ho rfl rfl
      · exact .none
  · exact .none

theorem bankChange_clearBankBody (s : State) (ws : List Word) : s.BankChange ((clearBankBody s ws).state s) := by
  unfold clearBankBody
  split
  · split
    · exact .none
    · split
      next ho =>
        rw [Begun.state_done]
        exact .edit _ _ ho rfl rfl
      · exact .none
  · exact .none

theorem bankChange_setMissActionBody (s : State) (ws : List Word) :
    s.BankChange ((setMissActionBody s ws).state s) := by
  unfold setMissActionBody
  split
  · split
    · split
      next ho =>
        rw [Begun.state_done]
        exact .edit _ _ ho rfl rfl
      · exact .none
    · exact .none
  · exact .none

theorem bankChange_openBankBody (s : State) (ws : List Word) : s.BankChange ((openBankBody s ws).state s) := by
  unfold openBankBody
  split
  · split
    · exact .none
    · split
      · exact .none
      · exact .none
      next hv =>
        split
        next hr => exact .reopen _ hv hr
        · exact .none
  · exact .none

theorem bankChange_selectBankBody (s : State) (ws : List Word) : s.BankChange ((selectBankBody s ws).state s) := by
  unfold selectBankBody
  split
  · split
    · exact .none
    · exact .deselect
    · split
      · exact .none
      · exact .none
      next hv => exact .select _ hv
  · exact .none

/-- An OPEN bank that passes becomes VERIFIED (R8, R14). -/
theorem State.modBank_passed {s : State} {b : BankId} (ho : (s.bank b).state = .opened) :
    s.modBank b Bank.passed = s.modBank b fun x => { x with state := .verified } := by
  have hx : (s.windows.bank b).passed = { s.windows.bank b with state := .verified } := if_pos ho
  simp only [State.modBank, hx]

/-- A bank that passes becomes VERIFIED if it was OPEN, and stays as it is otherwise (R8, R14, R16). -/
theorem State.bankChange_passed {s : State} {b : BankId} (hpass : (s.bank b).firstFailing = none) :
    s.BankChange (s.modBank b Bank.passed) := by
  by_cases ho : (s.bank b).state = .opened
  · rw [State.modBank_passed ho]
    exact .verify b ho hpass
  · have hp : s.modBank b Bank.passed = s := by
      have hx : (s.windows.bank b).passed = s.windows.bank b := if_neg ho
      cases b <;> simp only [State.modBank, hx] <;> rfl
    rw [hp]
    exact .none

/-- From `s` to `t` one change of the tables is made, and beside it only what agreement does not speak of. -/
def State.ChangesBanks (s t : State) : Prop := ∃ u v, s.Follows u ∧ u.BankChange v ∧ v.Follows t

theorem State.Follows.changesBanks {s t : State} (h : s.Follows t) : s.ChangesBanks t := ⟨s, s, .refl s, .none, h⟩

theorem State.ChangesBanks.of_taken {s u t : State} (h : s.taken u = .next t) (hu : s.ChangesBanks u) :
    s.ChangesBanks t := by
  rw [State.eq_of_taken h]
  split
  · exact (State.Follows.refl s).changesBanks
  · exact hu

theorem State.changesBanks_begin {op : Op} {body : State → List Word → Begun}
    (hbody : ∀ (u : State) ws, u.BankChange ((body u ws).state u)) (s : State) : s.ChangesBanks (s.begin op body) := by
  obtain ⟨u, v, hu, hv, hend⟩ := s.begin_around op body
  obtain rfl | ⟨ws, rfl⟩ := hv
  · exact ⟨v, v, hu, .none, hend⟩
  · exact ⟨u, _, hu, hbody u ws, hend⟩

/-- The commands that change the contents or the state of a bank make one change of the tables. -/
theorem State.changesBanks_exec {c : Instr} {s t : State} (hc : remakesTables c = true) (hr : c ≠ .powerUpReset)
    (hp : c ≠ .classifyPacket) (h : exec c s = .next t) : s.ChangesBanks t := by
  cases c with
  | powerUpReset => exact absurd rfl hr
  | classifyPacket => exact absurd rfl hp
  | writeEntry => exact .of_taken h (State.changesBanks_begin bankChange_writeEntryBody s)
  | clearBank => exact .of_taken h (State.changesBanks_begin bankChange_clearBankBody s)
  | setMissAction => exact .of_taken h (State.changesBanks_begin bankChange_setMissActionBody s)
  | openBank => exact .of_taken h (State.changesBanks_begin bankChange_openBankBody s)
  | selectBank => exact .of_taken h (State.changesBanks_begin bankChange_selectBankBody s)
  | verifyBankComplete =>
    refine .of_taken h ?_
    split
    next i b _ =>
      unfold State.completeVerify
      split
      · exact (s.follows_finishMgmt _ _ _).changesBanks
      next hpass => exact ⟨s, _, .refl s, State.bankChange_passed hpass, State.follows_finishMgmt _ _ _ _⟩
    · exact (State.Follows.refl s).changesBanks
  | _ => simp [remakesTables] at hc

/-! ### The bank operations keep the tables in agreement -/

@[simp] theorem Windows.selector_select (w : Windows) (b : BankId) : (w.select b).selector = some b := rfl

@[simp] theorem Windows.selector_selectNone (w : Windows) : w.selectNone.selector = none := rfl

theorem BankId.other_ne (b : BankId) : b.other ≠ b := by cases b <;> simp [BankId.other]

theorem BankId.eq_other {b c : BankId} (h : c ≠ b) : c = b.other := by
  cases b <;> cases c <;> simp [BankId.other] at h ⊢

/-- What holds of a bank and of the other one holds of both. -/
theorem BankId.forall_of_other {p : BankId → Prop} (b : BankId) (h : p b) (h' : p b.other) (c : BankId) : p c := by
  by_cases hc : c = b
  · exact hc ▸ h
  · exact BankId.eq_other hc ▸ h'

@[simp] theorem Windows.bank_select_self (w : Windows) (b : BankId) :
    (w.select b).bank b = { w.bank b with state := .active } := by
  cases b <;> rfl

@[simp] theorem Windows.bank_select_other (w : Windows) (b : BankId) :
    (w.select b).bank b.other = (w.bank b.other).deselected := by
  cases b <;> rfl

@[simp] theorem Windows.bank_selectNone (w : Windows) (b : BankId) : w.selectNone.bank b = (w.bank b).deselected := by
  cases b <;> rfl

@[simp] theorem Bank.refs_deselected (b : Bank) : b.deselected.refs = b.refs := by
  unfold Bank.deselected
  split <;> rfl

@[simp] theorem Bank.entries_deselected (b : Bank) : b.deselected.entries = b.entries := by
  unfold Bank.deselected
  split <;> rfl

@[simp] theorem Bank.missAction_deselected (b : Bank) : b.deselected.missAction = b.missAction := by
  unfold Bank.deselected
  split <;> rfl

theorem Bank.deselected_ne_active (b : Bank) : b.deselected.state ≠ .active := by
  unfold Bank.deselected
  split
  · simp
  · assumption

theorem Bank.deselected_opened_iff (b : Bank) : b.deselected.state = .opened ↔ b.state = .opened := by
  unfold Bank.deselected
  split
  next h => simp [h]
  · rfl

/-- Each bank keeps its contents and reference count, and its being OPEN or not: what selecting leaves (R18, R19). -/
theorem State.tablesAgree_of_selected {s : State} {w : Windows} (hs : s.TablesAgree)
    (hsel : ∀ b, (w.bank b).state = .active ↔ w.selector = some b)
    (hentries : ∀ b, (w.bank b).entries = (s.bank b).entries) (hrefs : ∀ b, (w.bank b).refs = (s.bank b).refs)
    (hopen : ∀ b, (w.bank b).state = .opened ↔ (s.bank b).state = .opened) :
    ({ s with windows := w } : State).TablesAgree := by
  obtain ⟨-, hcount, hpass, htr⟩ := hs
  refine ⟨hsel, fun b => (hrefs b).trans (hcount b), fun b hb => ?_, fun i r hr => ?_⟩
  · have hf : (w.bank b).firstFailing = (s.bank b).firstFailing := by simp only [Bank.firstFailing, hentries b]
    exact hf.trans (hpass b fun ho => hb ((hopen b).2 ho))
  · obtain ⟨ho, x, l, hx, hrest⟩ := htr i r hr
    refine ⟨fun h => ho ((hopen r.bank).1 h), x, l, ?_, hrest⟩
    simpa only [State.bank, hentries r.bank] using hx

/-- A bank that no record names, or whose window entries stand, changes without a record noticing. -/
theorem State.tablesAgree_modBank {s : State} {b : BankId} {f : Bank → Bank} (hs : s.TablesAgree)
    (hactive : (s.bank b).state ≠ .active) (hactive' : (f (s.bank b)).state ≠ .active)
    (hrefs : (f (s.bank b)).refs = (s.bank b).refs)
    (hpassed : (f (s.bank b)).state ≠ .opened → (f (s.bank b)).firstFailing = none)
    (hnone : ∀ i r, s.transAt i = some r → r.bank ≠ b) : (s.modBank b f).TablesAgree := by
  obtain ⟨hsel, hcount, hpass, htr⟩ := hs
  refine ⟨fun c => ?_, fun c => ?_, fun c hc => ?_, fun i r hr => ?_⟩
  · rw [s.bank_modBank b c f, s.selector_modBank, ← hsel c]
    split
    next h => subst h; simp [hactive, hactive']
    · rfl
  · have hc := hcount c
    rw [s.bank_modBank b c f]
    split
    next h => subst h; exact hrefs.trans hc
    · exact hc
  · rw [s.bank_modBank b c f] at hc ⊢
    split at hc
    next h => subst h; rw [if_pos rfl]; exact hpassed hc
    next h => rw [if_neg h]; exact hpass c hc
  · have hb : (s.modBank b f).bank r.bank = s.bank r.bank := s.bank_modBank_ne (hnone i r hr) f
    rw [hb]
    exact htr i r hr

/-- No record names an OPEN bank (R9). -/
theorem State.TablesAgree.bank_ne_of_opened {s : State} (hs : s.TablesAgree) {b : BankId}
    (ho : (s.bank b).state = .opened) (i : Fin 16) (r : TransRecord) (hr : s.transAt i = some r) : r.bank ≠ b := by
  rintro rfl
  exact (hs.2.2.2 i r hr).1 ho

/-- No record names a bank with reference count 0 (R9). -/
theorem State.TablesAgree.bank_ne_of_refs {s : State} (hs : s.TablesAgree) {b : BankId} (h : (s.bank b).refs = 0)
    (i : Fin 16) (r : TransRecord) (hr : s.transAt i = some r) : r.bank ≠ b := by
  rintro rfl
  obtain ⟨-, hcount, -⟩ := hs
  have hpos := RecordTable.count_pos (t := s.records) (f := fun q => q.bank == r.bank) hr (by simp)
  rw [← hcount r.bank, h] at hpos
  exact absurd hpos (by simp)

theorem State.BankChange.tablesAgree {s t : State} (h : s.BankChange t) (hs : s.TablesAgree) : t.TablesAgree := by
  cases h with
  | none => exact hs
  | edit b f hopen hstate hrefs =>
    exact State.tablesAgree_modBank hs (by simp [hopen]) (by simp [hstate, hopen]) hrefs
      (fun h => absurd (hstate.trans hopen) h) (hs.bank_ne_of_opened hopen)
  | verify b hopen hpass =>
    exact State.tablesAgree_modBank hs (by simp [hopen]) (by simp) rfl (fun _ => hpass) (hs.bank_ne_of_opened hopen)
  | reopen b hver hfree =>
    exact State.tablesAgree_modBank hs (by simp [hver]) (by simp) rfl (fun h => absurd rfl h)
      (hs.bank_ne_of_refs hfree)
  | select b hver =>
    have hb : (s.windows.bank b).state = .verified := hver
    refine State.tablesAgree_of_selected hs (BankId.forall_of_other b ?_ ?_) (BankId.forall_of_other b ?_ ?_)
      (BankId.forall_of_other b ?_ ?_) (BankId.forall_of_other b ?_ ?_)
    · simp
    · simp [Bank.deselected_ne_active, Ne.symm (BankId.other_ne b)]
    · simp [State.bank]
    · simp [State.bank]
    · simp [State.bank]
    · simp [State.bank]
    · simp [State.bank, hb]
    · simp [State.bank, Bank.deselected_opened_iff]
  | deselect =>
    exact State.tablesAgree_of_selected hs (fun b => by simp [Bank.deselected_ne_active]) (fun b => by simp [State.bank])
      (fun b => by simp [State.bank]) fun b => by simp [State.bank, Bank.deselected_opened_iff]


/-! ### Allocation keeps the tables in agreement -/

/-- Record r names a bank that is not OPEN and lies in a window of it that translates it (R9, R23). -/
def State.Translates (s : State) (r : TransRecord) : Prop :=
  (s.bank r.bank).state ≠ .opened
    ∧ ∃ w l, (s.bank r.bank).entries[r.entry] = some w ∧ w.localBase = some l ∧ w.tap = some r.tap
      ∧ w.base.toNat ≤ r.address.toNat ∧ r.address.toNat + r.length ≤ w.base.toNat + 2 ^ w.sizeExponent

theorem State.recordsTranslate_iff {s : State} :
    s.RecordsTranslate ↔ ∀ i r, s.transAt i = some r → s.Translates r := .rfl

theorem State.windows_allocate (s : State) (i : Fin 16) (r : TransRecord) :
    (s.allocate i r).windows = (s.modBank r.bank fun b => { b with refs := b.refs + 1 }).windows := rfl

theorem State.bank_allocate (s : State) (i : Fin 16) (r : TransRecord) (c : BankId) :
    (s.allocate i r).bank c = { s.bank c with refs := (s.bank c).refs + if r.bank = c then 1 else 0 } := by
  rw [State.bank, s.windows_allocate, ← State.bank, s.bank_modBank]
  by_cases h : c = r.bank
  · simp [h]
  · simp [h, Ne.symm h]

theorem State.transAt_allocate (s : State) (i j : Fin 16) (r : TransRecord) :
    (s.allocate i r).transAt j = if j = i then some { r with hold := s.marks r } else s.transAt j := by
  have h : (s.allocate i r).transAt j = (s.setTrans i (some { r with hold := s.marks r })).transAt j := rfl
  rw [h]
  split
  next h => rw [h, State.transAt_setTrans_self]
  next h => exact s.transAt_setTrans_ne h _

theorem State.keepsBanks_allocate (s : State) (i : Fin 16) (r : TransRecord) : s.KeepsBanks (s.allocate i r) where
  selector := by rw [s.windows_allocate, s.selector_modBank]
  state c := by rw [s.bank_allocate]
  contents c := by rw [s.bank_allocate]; rfl

theorem State.tablesAgree_allocate {s : State} {i : Fin 16} {r : TransRecord} (hs : s.TablesAgree)
    (hfree : s.transAt i = none) (hr : s.Translates r) : (s.allocate i r).TablesAgree := by
  obtain ⟨hsel, hcount, hpass, htr⟩ := hs
  refine ⟨fun c => ?_, fun c => ?_, fun c hc => ?_, State.recordsTranslate_iff.2 fun j q hj => ?_⟩
  · rw [(s.keepsBanks_allocate i r).state, (s.keepsBanks_allocate i r).selector]
    exact hsel c
  · have hrec : (s.allocate i r).records
        = { s.records with trans := s.records.trans.set i (some { r with hold := s.marks r }) } := rfl
    have hfree' : s.records.trans[i] = none := hfree
    rw [s.bank_allocate, hrec, RecordTable.count_set, hfree', hcount c]
    simp
  · rw [s.bank_allocate] at hc ⊢
    exact hpass c hc
  · rw [s.transAt_allocate] at hj
    simp only [State.Translates, s.bank_allocate]
    split at hj
    · cases hj
      exact hr
    · exact htr j q hj

/-- The lowest FREE record is FREE (R37). -/
theorem State.transAt_of_freeTrans? {s : State} {i : Fin 16} (h : s.freeTrans? = some i) : s.transAt i = none := by
  simpa using (find?_finRange_eq_some.1 h).1

/-- A claim that passes the checks lies wholly in the window (R35). -/
theorem State.fits_of_claimCheck {s : State} {w : Window} {q : Request} (h : s.claimCheck w q = none)
    (hc : w.covers q.address = true) : q.address.toNat + q.length ≤ w.base.toNat + 2 ^ w.sizeExponent := by
  have hb : ¬ q.address.toNat + q.length - 1 ≥ w.base.toNat + w.size := by
    intro hge
    simp only [State.claimCheck, if_pos hge] at h
    split at h
    · simp at h
    · split at h <;> simp at h
  have hlt := ((w.covers_iff q.address).1 hc).2
  unfold Window.size at hb
  omega

theorem State.keepsBanks_claimHead (s : State) (b : BankId) (e : Fin 32) (w : Window) (q : Request) :
    s.KeepsBanks (s.claimHead b e w q) := by
  unfold State.claimHead
  split
  · exact (s.follows_refuseHead _).toKeepsBanks
  · split
    · exact s.keepsBanks_allocate _ _
    · exact (State.Follows.refl s).toKeepsBanks

/-- A claim by an entry of the active bank that covers its address, whatever the entry's hit count has become
(R31, R37). -/
theorem State.tablesAgree_claimHead {s : State} {b : BankId} {e : Fin 32} {w x : Window} {q : Request}
    (hs : s.TablesAgree) (hsel : s.windows.selector = some b) (hx : (s.bank b).entries[e] = some x)
    (hxw : x.unhit = w.unhit) (ha : w.action = .claim) (hc : w.covers q.address = true) : (s.claimHead b e w q).TablesAgree := by
  unfold State.claimHead
  split
  · exact (s.follows_refuseHead _).tablesAgree hs
  next hcheck =>
    split
    next i hi =>
      have hactive : (s.bank b).state = .active := (hs.1 b).2 hsel
      have hopen : (s.bank b).state ≠ .opened := by simp [hactive]
      have hver : w.verify = none := by
        rw [← w.verify_unhit, ← hxw, x.verify_unhit]
        exact Bank.firstFailing_eq_none_iff.1 (hs.2.2.1 b hopen) e x hx
      obtain ⟨k, l, hk, hl⟩ := Window.claim_of_verify hver ha
      simp only [Window.unhit, Window.mk.injEq] at hxw
      obtain ⟨ebase, esize, -, etap, elocal, -⟩ := hxw
      refine State.tablesAgree_allocate hs (State.transAt_of_freeTrans? hi)
        ⟨hopen, x, l, hx, elocal.trans hl, ?_, ?_, ?_⟩
      · simp [State.newRecord, Window.claimTap, etap, hk]
      · exact ebase ▸ ((w.covers_iff q.address).1 hc).1
      · rw [ebase, esize]
        exact State.fits_of_claimCheck hcheck hc
    · exact hs

theorem State.follows_countHit (s : State) (b : BankId) (e : Fin 32) : s.Follows (s.modBank b fun x => x.countHit e) :=
  State.follows_modBank rfl (Bank.contents_countHit (s.bank b) e) rfl

theorem State.keepsBanks_classifyRequest (s : State) (q : Request) : s.KeepsBanks (s.classifyRequest q) := by
  unfold State.classifyRequest
  split
  · exact (s.follows_passHead _).toKeepsBanks
  next b _ =>
    split
    · split
      · exact (s.follows_passHead _).toKeepsBanks
      · exact (s.follows_refuseHead _).toKeepsBanks
    next e _ =>
      split
      · exact (State.Follows.refl s).toKeepsBanks
      · have hhit := s.follows_countHit b e
        dsimp only
        split
        · exact (hhit.trans (State.follows_passHead _ _)).toKeepsBanks
        · exact (hhit.trans (State.follows_refuseHead _ _)).toKeepsBanks
        · exact hhit.toKeepsBanks.trans (State.keepsBanks_claimHead _ b e _ q)

theorem State.tablesAgree_classifyRequest {s : State} (hs : s.TablesAgree) (q : Request) :
    (s.classifyRequest q).TablesAgree := by
  unfold State.classifyRequest
  split
  · exact (s.follows_passHead _).tablesAgree hs
  next b hsel =>
    split
    · split
      · exact (s.follows_passHead _).tablesAgree hs
      · exact (s.follows_refuseHead _).tablesAgree hs
    next e hmatch =>
      split
      · exact hs
      next w hw =>
        have hhit := s.follows_countHit b e
        dsimp only
        split
        · exact (hhit.trans (State.follows_passHead _ _)).tablesAgree hs
        · exact (hhit.trans (State.follows_refuseHead _ _)).tablesAgree hs
        next ha =>
          obtain ⟨x, hx, hxw⟩ := Bank.entry_of_contents (hhit.contents b) hw
          exact State.tablesAgree_claimHead (hhit.tablesAgree hs) (hhit.selector.trans hsel) hx hxw ha
            (Bank.covers_of_match? hmatch hw)

theorem State.follows_keepMgmt (s : State) (i : Fin 3) (m : MgmtPacket) : s.Follows (s.keepMgmt i m) :=
  .of_same rfl rfl

theorem State.follows_classifyMgmt (s : State) (m : MgmtPacket) : s.Follows (s.classifyMgmt m) := by
  unfold State.classifyMgmt
  split
  · exact s.follows_passHead _
  split
  · exact s.follows_refuseHead _
  split
  · exact s.follows_refuseHead _
  · exact s.follows_keepMgmt _ m

theorem State.keepsBanks_classify (s : State) : s.KeepsBanks s.classify := by
  unfold State.classify
  split
  · exact (State.Follows.refl s).toKeepsBanks
  split
  · exact (State.Follows.refl s).toKeepsBanks
  · exact s.keepsBanks_classifyRequest _
  · exact (s.follows_classifyMgmt _).toKeepsBanks

theorem State.tablesAgree_classify {s : State} (hs : s.TablesAgree) : s.classify.TablesAgree := by
  unfold State.classify
  split
  · exact hs
  split
  · exact hs
  · exact State.tablesAgree_classifyRequest hs _
  · exact (s.follows_classifyMgmt _).tablesAgree hs

/-! ### The invariants at reset, and agreement at every step -/

theorem State.tablesAgree_reset : State.reset.TablesAgree :=
  State.tablesAgree_of_checks (by decide +kernel) (by decide +kernel)

theorem State.tablesAgree_exec {c : Instr} {s t : State} (hs : s.TablesAgree) (h : exec c s = .next t) :
    t.TablesAgree := by
  by_cases hc : remakesTables c = true
  · by_cases hr : c = .powerUpReset
    · subst hr
      cases h
      exact State.tablesAgree_reset
    by_cases hp : c = .classifyPacket
    · subst hp
      rw [State.eq_of_taken h]
      split
      · exact hs
      · exact State.tablesAgree_classify hs
    · obtain ⟨u, v, hu, hv, ht⟩ := State.changesBanks_exec hc hr hp h
      exact ht.tablesAgree (hv.tablesAgree (hu.tablesAgree hs))
  · exact (State.follows_exec (by simpa using hc) h).tablesAgree hs

/-- Settles O53: every command but the bank operations, the classifier and power-up reset keeps banks and claims
(`State.follows_exec`), and these three are taken one by one. -/
theorem stepKeepsTablesAgree : Obligations.StepKeepsTablesAgree := by
  intro s t hs h
  unfold step at h
  split at h
  · cases h
    exact s.follows_tick.tablesAgree hs
  next c rest _ =>
    have hqueue : s.Follows { s with pending := rest } := .of_same rfl rfl
    exact State.tablesAgree_exec (hqueue.tablesAgree hs) h


/-! ### How a bank may change -/

/-- From `b` to `c` a bank has kept its contents unless it was OPEN, and its state has gone a way of R8. -/
structure Bank.Moves (b c : Bank) : Prop where
  contents : b.state ≠ .opened → c.contents = b.contents
  ofOpen : b.state = .opened → c.state = .opened ∨ c.state = .verified
  ofActive : b.state = .active → c.state = .active ∨ c.state = .verified

theorem Bank.Moves.of_kept {b c : Bank} (hs : c.state = b.state) (hc : c.contents = b.contents) : b.Moves c :=
  ⟨fun _ => hc, fun h => .inl (hs.trans h), fun h => .inl (hs.trans h)⟩

theorem Bank.moves_deselected (b : Bank) : b.Moves b.deselected where
  contents _ := by simp [Bank.contents]
  ofOpen h := .inl (b.deselected_opened_iff.2 h)
  ofActive h := .inr (by simp [Bank.deselected, h])

theorem Bank.moves_refl (b : Bank) : b.Moves b := .of_kept rfl rfl

theorem State.moves_modBank {s : State} {b : BankId} {f : Bank → Bank} (h : (s.bank b).Moves (f (s.bank b)))
    (c : BankId) : (s.bank c).Moves ((s.modBank b f).bank c) := by
  rw [s.bank_modBank]
  split
  next hc => subst hc; exact h
  · exact (s.bank c).moves_refl

theorem State.BankChange.moves {s t : State} (h : s.BankChange t) (c : BankId) : (s.bank c).Moves (t.bank c) := by
  cases h with
  | none => exact (s.bank c).moves_refl
  | edit b f hopen hstate _ =>
    exact State.moves_modBank ⟨fun h => absurd hopen h, fun h => .inl (hstate.trans h),
      fun h => .inl (hstate.trans h)⟩ c
  | verify b hopen _ =>
    exact State.moves_modBank ⟨fun _ => rfl, fun _ => .inr rfl, fun _ => .inr rfl⟩ c
  | reopen b hver _ =>
    exact State.moves_modBank ⟨fun _ => rfl, fun _ => .inl rfl, fun h => by simp [hver] at h⟩ c
  | select b hver =>
    by_cases hc : c = b
    · subst hc
      have hb : ({ s with windows := s.windows.select c } : State).bank c = { s.bank c with state := .active } :=
        s.windows.bank_select_self c
      rw [hb]
      exact ⟨fun _ => rfl, fun h => by simp [hver] at h, fun _ => .inl rfl⟩
    · have hb : ({ s with windows := s.windows.select b } : State).bank c = (s.bank c).deselected := by
        rw [BankId.eq_other hc]
        exact s.windows.bank_select_other b
      rw [hb]
      exact (s.bank c).moves_deselected
  | deselect =>
    have hb : ({ s with windows := s.windows.selectNone } : State).bank c = (s.bank c).deselected :=
      s.windows.bank_selectNone c
    rw [hb]
    exact (s.bank c).moves_deselected

theorem State.KeepsBanks.moves {s t : State} (h : s.KeepsBanks t) (b : BankId) : (s.bank b).Moves (t.bank b) :=
  .of_kept (h.state b) (h.contents b)

/-- Every command but power-up reset moves a bank along the ways of R8. -/
theorem State.moves_exec {c : Instr} {s t : State} (hr : c ≠ .powerUpReset) (h : exec c s = .next t) (b : BankId) :
    (s.bank b).Moves (t.bank b) := by
  by_cases hc : remakesTables c = true
  · by_cases hp : c = .classifyPacket
    · subst hp
      rw [State.eq_of_taken h]
      split
      · exact (s.bank b).moves_refl
      · exact s.keepsBanks_classify.moves b
    · obtain ⟨u, v, hu, hv, ht⟩ := State.changesBanks_exec hc hr hp h
      obtain ⟨hcontents, hopen, hactive⟩ := hv.moves b
      rw [hu.state b, hu.contents b] at hcontents
      rw [hu.state b] at hopen hactive
      rw [← ht.state b] at hopen hactive
      exact ⟨fun h => (ht.contents b).trans (hcontents h), hopen, hactive⟩
  · exact (State.follows_exec (by simpa using hc) h).toKeepsBanks.moves b

/-- Settles O60, from the ways in which each command may move a bank (`State.moves_exec`). -/
theorem banksAreFrozenUnlessOpen : Obligations.BanksAreFrozenUnlessOpen := by
  intro c s t b hr h
  obtain ⟨hcontents, hopen, hactive⟩ := State.moves_exec hr h b
  exact ⟨hcontents, hopen, hactive⟩

/-! ### Reset -/

/-- Settles O3. -/
theorem powerUpResetEmptiesTheTables : Obligations.PowerUpResetEmptiesTheTables := by
  intro s
  have hbank : ∀ b, ({ State.reset with pending := s.pending } : State).bank b = Bank.atReset := by
    intro b
    cases b <;> rfl
  refine ⟨_, rfl, rfl, fun b => ?_⟩
  rw [hbank]
  exact ⟨rfl, rfl, rfl, fun e => by simp [Bank.atReset]⟩

/-- Settles O52: each invariant by its check at the one state of reset. -/
theorem invariantsHoldAtReset : Obligations.InvariantsHoldAtReset := by
  refine ⟨State.tablesAgree_reset, State.tagsDiffer_of_checks ?_, ?_, State.queuesAgree_of_checks ?_,
    State.portsAgree_of_checks ?_, State.recordsPlaced_of_checks ?_, ?_, State.mgmtPlaced_of_checks ?_⟩
  · decide +kernel
  · exact ⟨by decide, fun _ => ⟨rfl, rfl⟩⟩
  · decide +kernel
  · decide +kernel
  · decide +kernel
  · unfold State.ExchangesAgree
    decide +kernel
  · decide +kernel

/-! ### Lookup -/

/-- Settles O24. -/
theorem lookupTakesTheLowestIndex : Obligations.LookupTakesTheLowestIndex := by
  intro b a e
  have hholds : ∀ j, b.Holds j a ↔ ∃ w, b.entries[j] = some w ∧ w.base.toNat ≤ a.toNat
      ∧ a.toNat < w.base.toNat + 2 ^ w.sizeExponent := by
    intro j
    simp only [Bank.Holds, Window.covers_iff]
  refine ⟨?_, ?_, fun w hw => ?_⟩
  · rw [Bank.match?_eq_some_iff, ← hholds]
    simp only [hholds, not_exists, not_and]
    exact and_congr_right fun _ => ⟨fun h j w hj => h j hj w, fun h j w hj => h j hj w⟩
  · simp only [Bank.match?_eq_none_iff, hholds, not_exists, not_and]
  · simp only [Bank.countHit, hw, Option.map_some]
    rfl

end Sys2Proof.Machine

/-! ## Bank operations and the examination of a tap's head -/

namespace Sys2Proof.Machine

/-! ### Operations that act on an OPEN bank alone -/

/-- An operation that changes an OPEN bank and is refused WRONG_STATE on any other (R11 to R13). -/
theorem State.taken_edit {s : State} {i : Fin 3} {r : MgmtRecord} {op : Op} {ws : List Word}
    {body : State → List Word → Begun} {b : BankId} {f : Bank → Bank} (h : s.Ready i r op ws)
    (hc : ws.length = op.operandCount)
    (hbody : ∀ u : State, body u ws
      = if (u.bank b).state = .opened then .done [] (u.modBank b f) else .refuse .wrongState) :
    s.taken (s.begin op body) = .next (if (s.bank b).state = .opened then (s.modBank b f).mgmtAnswered i r .ok []
      else s.mgmtAnswered i r .wrongState []) := by
  split
  next ho =>
    refine State.taken_done h hc ⟨_, (hbody _).trans (if_pos ?_), rfl, rfl⟩
    exact ho
  next ho =>
    refine State.taken_refuse h hc ((hbody _).trans (if_neg ?_))
    exact ho

/-- An operation that is carried out in the window tables alone. -/
theorem State.taken_windows {s : State} {i : Fin 3} {r : MgmtRecord} {op : Op} {ws : List Word}
    {body : State → List Word → Begun} {result : List Word} {w : Windows} (h : s.Ready i r op ws)
    (hc : ws.length = op.operandCount)
    (hbody : body (s.startMgmt i r) ws = .done result { s.startMgmt i r with windows := w }) :
    s.taken (s.begin op body) = .next (({ s with windows := w } : State).mgmtAnswered i r .ok result) :=
  State.taken_done h hc ⟨_, hbody, rfl, rfl⟩

theorem missAction?_none {v : Nat} (h1 : v ≠ 1) (h2 : v ≠ 2) : missAction? v = none := by
  match v, h1, h2 with
  | 0, _, _ => rfl
  | _ + 3, _, _ => rfl

/-- Settles O40: the first two operations act on an OPEN bank alone (`State.taken_edit`). -/
theorem bankContentsAreClearedAndSet : Obligations.BankContentsAreClearedAndSet := by
  intro s i r b
  refine ⟨fun h => ?_, fun a h => ?_, fun h => ?_, fun w a hw => ⟨fun h => ?_, fun h => ?_, fun h => ?_⟩,
    fun w a ha h => ?_⟩
  · exact State.taken_edit h rfl fun u => by simp [clearBankBody]
  · refine State.taken_edit h rfl fun u => ?_
    cases a <;> (simp only [setMissActionBody, bank?_one]; rfl)
  · exact State.taken_windows h rfl (by simp only [clearHitCountsBody, bank?_one]; rfl)
  · exact State.taken_refuse h rfl (by simp [clearBankBody, bank?_none hw])
  · exact State.taken_refuse h rfl (by simp [clearHitCountsBody, bank?_none hw])
  · exact State.taken_refuse h rfl (by simp [setMissActionBody, bank?_none hw])
  · refine State.taken_refuse h rfl ?_
    simp [setMissActionBody, missAction?_none ha.1 ha.2]

/-! ### Open Bank and Select Bank -/

theorem target?_none {v : Nat} (h : 3 ≤ v) : target? v = none := by
  match v, h with | _ + 3, _ => rfl

/-- A bank that is deselected, told by the selector (R1, R18, R19). -/
theorem State.deselected_bank {s : State} (hs : s.SelectorAgrees) (b : BankId) : (s.bank b).deselected
    = if s.windows.selector = some b then { s.bank b with state := .verified } else s.bank b := by
  unfold Bank.deselected
  simp only [hs b]

/-- Settles O42. -/
theorem banksAreOpenedAndSelected : Obligations.BanksAreOpenedAndSelected := by
  intro s i r hs
  refine ⟨fun b h => ⟨fun hb => ?_, fun hb hr => ?_, fun hb hr => ?_, fun hb => ?_⟩,
    fun b h => ⟨fun hb => ?_, fun hb => ?_, fun hb => ?_⟩, fun h => ?_, fun w => ⟨fun hw h => ?_, fun hw h => ?_⟩⟩
  · exact State.taken_windows h rfl (by simp only [openBankBody, bank?_one, State.bank_startMgmt, hb]; rfl)
  · exact State.taken_windows h rfl (by simp only [openBankBody, bank?_one, State.bank_startMgmt, hb, hr]; rfl)
  · exact State.taken_refuse h rfl (by simp [openBankBody, hb, Nat.ne_of_gt hr])
  · exact State.taken_refuse h rfl (by simp [openBankBody, hb])
  · refine ⟨_, State.taken_windows (w := s.windows.select b) h rfl ?_, rfl, ?_, ?_, rfl⟩
    · simp only [selectBankBody, target?_one, State.bank_startMgmt, hb]
      rfl
    · exact s.windows.bank_select_self b
    · exact (s.windows.bank_select_other b).trans (State.deselected_bank hs b.other)
  · have hsel : s.windows.selector = some b := (hs b).1 hb
    refine State.taken_windows (w := s.windows) h rfl ?_
    simp only [selectBankBody, target?_one, State.bank_startMgmt, hb, State.windows_startMgmt, hsel]
    rfl
  · exact State.taken_refuse h rfl (by simp [selectBankBody, hb])
  · have htarget : target? (2 : Word).toNat = some none := rfl
    refine ⟨_, State.taken_windows (w := s.windows.selectNone) h rfl ?_, rfl, fun b => ?_, rfl⟩
    · simp only [selectBankBody, htarget]
      rfl
    · exact (s.windows.bank_selectNone b).trans (State.deselected_bank hs b)
  · exact State.taken_refuse h rfl (by simp [openBankBody, bank?_none hw])
  · exact State.taken_refuse h rfl (by simp [selectBankBody, target?_none hw])

/-! ### The examination of the head (R74) -/

/-- What an IDLE tap's examination is to its head record. -/
theorem State.exec_examineHead {s : State} {k : Fin 4} {i : Fin 16} {r : TransRecord} (h : s.Serving k .idle i r)
    (ht : (s.tap k).transfers = []) :
    exec (.examineHead k) s = .next (if r.hold then s.enterHeld k i r else s.issue k i r) := by
  obtain ⟨hlow, hstate, hhead, hr, -⟩ := h
  obtain ⟨rest, hq⟩ := List.head?_eq_some_iff.1 hhead
  have hexec : exec (.examineHead k) s
      = s.taken (if (s.tap k).state = .idle ∧ (s.tap k).transfers = [] then s.examine k else s) := rfl
  rw [hexec, State.taken_of_released hlow, if_pos ⟨hstate, ht⟩, State.examine, hq]
  simp only [hr]

/-- Settles O28. -/
theorem examinationIssuesOrHolds : Obligations.ExaminationIssuesOrHolds := by
  intro s k i r h ht
  rw [State.exec_examineHead h ht]
  refine ⟨fun hh w l hw hl => ?_, fun hh => ?_⟩
  · have haddress : s.localAddress r = BitVec.ofNat 24 (l.toNat + (r.address.toNat - w.base.toNat)) := by
      simp only [State.localAddress, hw, hl, Option.getD_some]
    rw [if_neg (by simp [hh])]
    simp only [State.issue, State.present, State.requestOf, haddress]
    simp [State.modTap]
  · rw [if_pos hh]
    refine ⟨_, rfl, ?_, ?_⟩
    · exact State.flagRaised_raiseFlag _ (heldFlag k)
    · obtain ⟨a, ha⟩ := State.raiseFlag_changes
        ((s.setTrans i (some { r with state := .held })).modTap k fun p => { p with state := .held }) (heldFlag k)
      rw [State.enterHeld, ha]

end Sys2Proof.Machine

/-! ## Verify Bank -/

namespace Sys2Proof.Machine

/-! ### The checks of an entry (R15) -/

/-- The entry lacks a field that a CLAIM needs. -/
def Window.Missing (w : Window) : Prop := w.action = .claim ∧ (w.tap = none ∨ w.localBase = none)

/-- The entry has a field that only a CLAIM has. -/
def Window.Stray (w : Window) : Prop := ¬ w.action = .claim ∧ (w.tap ≠ none ∨ w.localBase ≠ none)

/-- The base is no multiple of the size. -/
def Window.BaseMisaligned (w : Window) : Prop := ¬ 2 ^ w.sizeExponent ∣ w.base.toNat

/-- The local base of a CLAIM is no multiple of 16. -/
def Window.LocalMisaligned (w : Window) : Prop := w.action = .claim ∧ ∀ l, w.localBase = some l → ¬ 16 ∣ l.toNat

/-- The local range of a CLAIM passes the end of the tap's space. -/
def Window.LocalOverrun (w : Window) : Prop :=
  w.action = .claim ∧ ∀ l, w.localBase = some l → 2 ^ 24 < l.toNat + 2 ^ w.sizeExponent

/-- Of an entry with its fields in place, only a CLAIM is judged by its local range. -/
theorem Window.verify_local {w : Window} (h1 : ¬ w.Missing) (h2 : ¬ w.Stray) (h3 : ¬ w.BaseMisaligned) :
    (w.LocalMisaligned → w.verify = some .localMisaligned)
      ∧ (¬ w.LocalMisaligned → w.LocalOverrun → w.verify = some .localOverrun)
      ∧ (¬ w.LocalMisaligned → ¬ w.LocalOverrun → w.verify = none) := by
  have hbase : ¬ w.base.toNat % 2 ^ w.sizeExponent ≠ 0 := by
    rwa [Window.BaseMisaligned, Nat.dvd_iff_mod_eq_zero] at h3
  by_cases ha : w.action = .claim
  · obtain ⟨k, hk⟩ : ∃ k, w.tap = some k :=
      Option.ne_none_iff_exists'.1 fun h => h1 ⟨ha, .inl h⟩
    obtain ⟨l, hl⟩ : ∃ l, w.localBase = some l :=
      Option.ne_none_iff_exists'.1 fun h => h1 ⟨ha, .inr h⟩
    simp only [Window.LocalMisaligned, Window.LocalOverrun, Window.verify, ha, hk, hl, hbase, Nat.dvd_iff_mod_eq_zero]
    simp only [Option.some.injEq, forall_eq', true_and]
    refine ⟨fun hm => ?_, fun hm ho => ?_, fun hm ho => ?_⟩
    · simp [hm]
    · simpa [not_not.1 hm] using ho
    · simpa [not_not.1 hm] using ho
  · have hk : w.tap = none := by
      by_contra h
      exact h2 ⟨ha, .inl h⟩
    have hl : w.localBase = none := by
      by_contra h
      exact h2 ⟨ha, .inr h⟩
    have hm : ¬ w.LocalMisaligned := fun h => ha h.1
    have ho : ¬ w.LocalOverrun := fun h => ha h.1
    refine ⟨fun h => absurd h hm, fun _ h => absurd h ho, fun _ _ => ?_⟩
    simp [Window.verify, ha, hk, hl, hbase]

/-- Verification by the checks of R15, in their order. -/
theorem Window.verify_cases (w : Window) :
    (w.Missing ∧ w.verify = some .missingField)
      ∨ (¬ w.Missing ∧ w.Stray ∧ w.verify = some .strayField)
      ∨ (¬ w.Missing ∧ ¬ w.Stray ∧ w.BaseMisaligned ∧ w.verify = some .baseMisaligned)
      ∨ (¬ w.Missing ∧ ¬ w.Stray ∧ ¬ w.BaseMisaligned ∧ w.LocalMisaligned ∧ w.verify = some .localMisaligned)
      ∨ (¬ w.Missing ∧ ¬ w.Stray ∧ ¬ w.BaseMisaligned ∧ ¬ w.LocalMisaligned ∧ w.LocalOverrun
          ∧ w.verify = some .localOverrun)
      ∨ (¬ w.Missing ∧ ¬ w.Stray ∧ ¬ w.BaseMisaligned ∧ ¬ w.LocalMisaligned ∧ ¬ w.LocalOverrun ∧ w.verify = none) := by
  have hm : (w.action = .claim ∧ (w.tap.isNone ∨ w.localBase.isNone)) ↔ w.Missing := by simp [Window.Missing]
  have hs : (w.action ≠ .claim ∧ (w.tap.isSome ∨ w.localBase.isSome)) ↔ w.Stray := by
    simp [Window.Stray, Option.isSome_iff_ne_none]
  have hb : w.base.toNat % 2 ^ w.sizeExponent ≠ 0 ↔ w.BaseMisaligned := by
    rw [Window.BaseMisaligned, Nat.dvd_iff_mod_eq_zero]
  by_cases h1 : w.Missing
  · exact .inl ⟨h1, if_pos (hm.2 h1)⟩
  by_cases h2 : w.Stray
  · exact .inr (.inl ⟨h1, h2, (if_neg (mt hm.1 h1)).trans (if_pos (hs.2 h2))⟩)
  by_cases h3 : w.BaseMisaligned
  · exact .inr (.inr (.inl ⟨h1, h2, h3,
      (if_neg (mt hm.1 h1)).trans ((if_neg (mt hs.1 h2)).trans (if_pos (hb.2 h3)))⟩))
  obtain ⟨hlocal, hover, hpass⟩ := Window.verify_local h1 h2 h3
  by_cases h4 : w.LocalMisaligned
  · exact .inr (.inr (.inr (.inl ⟨h1, h2, h3, h4, hlocal h4⟩)))
  by_cases h5 : w.LocalOverrun
  · exact .inr (.inr (.inr (.inr (.inl ⟨h1, h2, h3, h4, h5, hover h4 h5⟩))))
  · exact .inr (.inr (.inr (.inr (.inr ⟨h1, h2, h3, h4, h5, hpass h4 h5⟩))))

/-! ### The completion of a Verify Bank -/

/-- The lowest-indexed failing entry with its reason (R14). -/
theorem Bank.firstFailing_eq_some {b : Bank} {e : Fin 32} {w : Window} {reason : VerifyReason}
    (hw : b.entries[e] = some w) (hr : w.verify = some reason)
    (hbelow : ∀ (j : Fin 32) (y : Window), j < e → b.entries[j] = some y → y.verify = none) :
    b.firstFailing = some (e, reason) := by
  unfold Bank.firstFailing
  rw [← Fin.findSome?_eq_findSome?_finRange, Fin.findSome?_eq_some_iff]
  refine ⟨e, by simp [hw, hr], fun j hj => ?_⟩
  cases hy : b.entries[j] with
  | none => rfl
  | some y => simp [hbelow j y hj hy]

/-- The operation at the head of the management queue ends: answered, or freed if it is an orphan (R65, R131). -/
theorem State.finishMgmt_head {s : State} {i : Fin 3} {r : MgmtRecord} (hq : s.records.mgmtQueue.head? = some i)
    (hr : s.mgmtAt i = some r) (code : Code) (result : List Word) :
    (r.orphan = false → s.finishMgmt i code result = s.mgmtAnswered i r code result) ∧
    (r.orphan = true → s.finishMgmt i code result = { s with records := { s.records with
      mgmt := s.records.mgmt.set i none, mgmtQueue := s.records.mgmtQueue.tail } }) := by
  obtain ⟨rest, hc⟩ := List.head?_eq_some_iff.1 hq
  have he : s.records.mgmtQueue.erase i = s.records.mgmtQueue.tail := by rw [hc]; simp
  unfold State.finishMgmt
  rw [hr]
  refine ⟨fun ho => ?_, fun ho => ?_⟩
  · simp [ho, State.mgmtAnswered, State.setMgmt, he]
  · simp [ho, State.setMgmt, he]

/-- The completion event of the Verify Bank in progress (R133). -/
theorem State.exec_verifyBankComplete {s : State} {i : Fin 3} {r : MgmtRecord} {b : BankId} (hlow : s.resetLow = false)
    (h : s.InProgress i r .verifyBank) (hops : r.operands = [one b.num]) :
    exec .verifyBankComplete s = .next (s.completeVerify i b) := by
  obtain ⟨hq, hr, hst, hop⟩ := h
  obtain ⟨rest, hc⟩ := List.head?_eq_some_iff.1 hq
  have hhead : s.mgmtHead? .executing = some (i, r) := by
    unfold State.mgmtHead?
    rw [hc]
    simp [hr, hst]
  have hver : s.verifying? = some (i, b) := by simp [State.verifying?, hhead, hop, hops]
  have hexec : exec .verifyBankComplete s
      = s.taken (match s.verifying? with | some (i, b) => s.completeVerify i b | none => s) := rfl
  rw [hexec, State.taken_of_released hlow, hver]

/-- Settles O41: the checks by `Window.verify_cases`, the completion by the lowest failing entry. -/
theorem verifyBankChecksAndFreezes : Obligations.VerifyBankChecksAndFreezes := by
  refine ⟨fun w => ?_, fun s i r b => ⟨fun h => ⟨fun hb => ?_, fun hb => ?_⟩, fun w hw h => ?_,
    fun hlow h hops hopen => ⟨fun e x reason hx hv hbelow => ?_, fun hall => ?_⟩⟩⟩
  · change (w.verify = some .missingField ↔ w.Missing) ∧ (w.verify = some .strayField ↔ ¬ w.Missing ∧ w.Stray)
      ∧ (w.verify = some .baseMisaligned ↔ ¬ w.Missing ∧ ¬ w.Stray ∧ w.BaseMisaligned)
      ∧ (w.verify = some .localMisaligned ↔ ¬ w.Missing ∧ ¬ w.Stray ∧ ¬ w.BaseMisaligned ∧ w.LocalMisaligned)
      ∧ (w.verify = some .localOverrun ↔
          ¬ w.Missing ∧ ¬ w.Stray ∧ ¬ w.BaseMisaligned ∧ ¬ w.LocalMisaligned ∧ w.LocalOverrun)
      ∧ (w.verify = none ↔
          ¬ w.Missing ∧ ¬ w.Stray ∧ ¬ w.BaseMisaligned ∧ ¬ w.LocalMisaligned ∧ ¬ w.LocalOverrun)
    obtain ⟨h1, hv⟩ | ⟨h1, h2, hv⟩ | ⟨h1, h2, h3, hv⟩ | ⟨h1, h2, h3, h4, hv⟩ | ⟨h1, h2, h3, h4, h5, hv⟩
      | ⟨h1, h2, h3, h4, h5, hv⟩ := w.verify_cases
    all_goals simp [*]
  · refine State.taken_span h rfl ?_
    simp only [verifyBankBody, bank?_one, State.bank_startMgmt, hb]
    rfl
  · refine State.taken_windows (w := s.windows) h rfl ?_
    simp only [verifyBankBody, bank?_one, State.bank_startMgmt, hb]
    rfl
  · exact State.taken_refuse h rfl (by simp [verifyBankBody, bank?_none hw])
  · obtain ⟨hanswered, hfreed⟩ := State.finishMgmt_head h.1 h.2.1 .verifyFailed [one e.val, one reason.num]
    have hf := Bank.firstFailing_eq_some hx hv hbelow
    rw [State.exec_verifyBankComplete hlow h hops, State.completeVerify, hf]
    exact ⟨fun ho => congrArg _ (hanswered ho), fun ho _ => congrArg _ (hfreed ho)⟩
  · have hf := Bank.firstFailing_eq_none_iff.2 hall
    rw [State.exec_verifyBankComplete hlow h hops, State.completeVerify, hf, State.modBank_passed hopen]
    obtain ⟨hanswered, hfreed⟩ := State.finishMgmt_head (s := s.modBank b fun x => { x with state := .verified })
      h.1 h.2.1 .ok [one (s.bank b).validCount]
    exact ⟨fun ho => congrArg _ (hanswered ho), fun ho _ => congrArg _ (hfreed ho)⟩

end Sys2Proof.Machine

/-! ## Write Entry -/

namespace Sys2Proof.Machine

/-! ### Packed fields read back (R189) -/

/-- The width of a list of packed values. -/
def packWidth (l : List (Nat × Nat)) : Nat := (l.map Prod.fst).sum

theorem packNat_lt (l : List (Nat × Nat)) : packNat l < 2 ^ packWidth l := by
  induction l with
  | nil => simp [packNat, packWidth]
  | cons x rest ih =>
    obtain ⟨width, v⟩ := x
    have hv : v % 2 ^ width < 2 ^ width := Nat.mod_lt _ (by positivity)
    have hw : packWidth ((width, v) :: rest) = width + packWidth rest := by simp [packWidth]
    rw [hw, pow_add]
    calc packNat ((width, v) :: rest) = v % 2 ^ width + 2 ^ width * packNat rest := rfl
      _ < 2 ^ width + 2 ^ width * packNat rest := by omega
      _ = 2 ^ width * (packNat rest + 1) := by ring
      _ ≤ 2 ^ width * 2 ^ packWidth rest := Nat.mul_le_mul_left _ ih

/-- Behind the values in front of it, a list of packed values stands as it is packed alone. -/
theorem packNat_append_div (pre post : List (Nat × Nat)) :
    packNat (pre ++ post) / 2 ^ packWidth pre = packNat post := by
  induction pre with
  | nil => simp [packWidth]
  | cons x pre ih =>
    obtain ⟨width, v⟩ := x
    have hw : packWidth ((width, v) :: pre) = width + packWidth pre := by simp [packWidth]
    have hv : v % 2 ^ width < 2 ^ width := Nat.mod_lt _ (by positivity)
    have hn : packNat ((width, v) :: pre ++ post) = v % 2 ^ width + 2 ^ width * packNat (pre ++ post) := rfl
    rw [hw, pow_add, ← Nat.div_div_eq_div_mul, hn, Nat.add_mul_div_left _ _ (by positivity), Nat.div_eq_of_lt hv,
      Nat.zero_add, ih]

theorem field_eq_div_mod (w : Word) (lo width : Nat) : field w lo width = w.toNat / 2 ^ lo % 2 ^ width := by
  simp [field, BitVec.extractLsb'_toNat, Nat.shiftRight_eq_div_pow]

/-- A packed value is read back at its place (R189). -/
theorem field_pack (pre : List (Nat × Nat)) (width v : Nat) (post : List (Nat × Nat))
    (h : packWidth pre + width ≤ 32) : field (pack (pre ++ (width, v) :: post)) (packWidth pre) width = v % 2 ^ width := by
  have hsplit : (2 : Nat) ^ 32 = 2 ^ packWidth pre * 2 ^ (32 - packWidth pre) := by
    rw [← pow_add]
    congr 1
    omega
  have hdvd : 2 ^ width ∣ 2 ^ (32 - packWidth pre) := pow_dvd_pow 2 (by omega)
  rw [field_eq_div_mod, pack, BitVec.toNat_ofNat, hsplit, Nat.mod_mul_right_div_self, packNat_append_div,
    Nat.mod_mod_of_dvd _ hdvd, packNat, Nat.add_mul_mod_self_left, Nat.mod_mod]

theorem getLsbD_eq_field (w : Word) (k : Nat) : w.getLsbD k = decide (field w k 1 = 1) := by
  rw [field_eq_div_mod, BitVec.getLsbD, Nat.testBit_eq_decide_div_mod_eq, pow_one]

theorem getLsbD_pack (pre : List (Nat × Nat)) (b : Bool) (post : List (Nat × Nat)) (h : packWidth pre + 1 ≤ 32) :
    (pack (pre ++ (1, b.toNat) :: post)).getLsbD (packWidth pre) = b := by
  rw [getLsbD_eq_field, field_pack pre 1 b.toNat post h]
  cases b <;> rfl

theorem clearAbove_pack {l : List (Nat × Nat)} {n : Nat} (h : packWidth l ≤ n) : clearAbove (pack l) n = true := by
  have hle : (pack l).toNat ≤ packNat l := by
    rw [pack, BitVec.toNat_ofNat]
    exact Nat.mod_le _ _
  have hpow : 2 ^ packWidth l ≤ 2 ^ n := Nat.pow_le_pow_right (by omega) h
  have hlt := packNat_lt l
  exact decide_eq_true (by omega)

theorem clearAbove_iff {w : Word} {n : Nat} (h : n ≤ 32) : clearAbove w n = true ↔ w.extractLsb' n (32 - n) = 0 := by
  have hlt : w.toNat / 2 ^ n < 2 ^ (32 - n) := by
    rw [Nat.div_lt_iff_lt_mul (by positivity), ← pow_add, Nat.sub_add_cancel h]
    exact w.isLt
  have hz : w.extractLsb' n (32 - n) = 0 ↔ w.toNat / 2 ^ n = 0 := by
    rw [BitVec.toNat_eq, ← field, field_eq_div_mod, Nat.mod_eq_of_lt hlt]
    simp
  rw [hz, clearAbove, decide_eq_true_eq, Nat.div_eq_zero_iff_lt (by positivity)]

/-- A field that holds a set bit is not 0. -/
theorem field_ne_zero {w : Word} {lo width k : Nat} (hk : k < width) (h : w.getLsbD (lo + k) = true) :
    field w lo width ≠ 0 := by
  intro hz
  have hb : w.extractLsb' lo width = 0 := BitVec.eq_of_toNat_eq (by simpa [field] using hz)
  have := congrArg (fun x => BitVec.getLsbD x k) hb
  simp [hk, h] at this


/-! ### The operands of Write Entry (R11, R189) -/

theorem bank?_num (b : BankId) : bank? b.num = some b := by cases b <;> rfl

theorem action?_num (a : Action) : action? a.num = some a := by cases a <;> rfl

theorem index?_val {n : Nat} (k : Fin n) : index? n k.val = some k := by simp [index?]

/-- What the first operand of Write Entry carries. -/
theorem entryHead_reads (b : BankId) (e : Fin 32) (hasTap hasLocal hasMax : Bool) {w : Word}
    (h : w = pack [(2, b.num), (5, e.val), (1, 1), (1, hasTap.toNat), (1, hasLocal.toNat), (1, hasMax.toNat)]) :
    field w 0 2 = b.num ∧ field w 2 5 = e.val ∧ w.getLsbD 7 = true ∧ w.getLsbD 8 = hasTap ∧ w.getLsbD 9 = hasLocal
      ∧ w.getLsbD 10 = hasMax ∧ clearAbove w 11 = true := by
  subst h
  refine ⟨?_, ?_, ?_, ?_, ?_, ?_, clearAbove_pack (by simp [packWidth])⟩
  · refine (field_pack [] 2 b.num _ (by simp [packWidth])).trans ?_
    cases b <;> rfl
  · exact (field_pack [(2, b.num)] 5 e.val _ (by simp [packWidth])).trans (Nat.mod_eq_of_lt e.isLt)
  · exact getLsbD_pack [(2, b.num), (5, e.val)] true _ (by simp [packWidth])
  · exact getLsbD_pack [(2, b.num), (5, e.val), (1, 1)] hasTap _ (by simp [packWidth])
  · exact getLsbD_pack [(2, b.num), (5, e.val), (1, 1), (1, hasTap.toNat)] hasLocal _ (by simp [packWidth])
  · exact getLsbD_pack [(2, b.num), (5, e.val), (1, 1), (1, hasTap.toNat), (1, hasLocal.toNat)] hasMax []
      (by simp [packWidth])

/-- What the third operand of Write Entry carries. -/
theorem entryShape_reads {size tap max : Nat} (a : Action) (reads writes : Bool) (hsize : size < 32) (htap : tap < 8)
    (hmax : max < 32) {w : Word}
    (h : w = pack [(5, size), (2, a.num), (1, reads.toNat), (1, writes.toNat), (3, tap), (5, max)]) :
    field w 0 5 = size ∧ field w 5 2 = a.num ∧ w.getLsbD 7 = reads ∧ w.getLsbD 8 = writes ∧ field w 9 3 = tap
      ∧ field w 12 5 = max ∧ clearAbove w 17 = true := by
  subst h
  refine ⟨?_, ?_, ?_, ?_, ?_, ?_, clearAbove_pack (by simp [packWidth])⟩
  · exact (field_pack [] 5 size _ (by simp [packWidth])).trans (Nat.mod_eq_of_lt hsize)
  · refine (field_pack [(5, size)] 2 a.num _ (by simp [packWidth])).trans ?_
    cases a <;> rfl
  · exact getLsbD_pack [(5, size), (2, a.num)] reads _ (by simp [packWidth])
  · exact getLsbD_pack [(5, size), (2, a.num), (1, reads.toNat)] writes _ (by simp [packWidth])
  · exact (field_pack [(5, size), (2, a.num), (1, reads.toNat), (1, writes.toNat)] 3 tap _
      (by simp [packWidth])).trans (Nat.mod_eq_of_lt htap)
  · exact (field_pack [(5, size), (2, a.num), (1, reads.toNat), (1, writes.toNat), (3, tap)] 5 max _
      (by simp [packWidth])).trans (Nat.mod_eq_of_lt hmax)

/-- What the fourth operand of Write Entry carries. -/
theorem entryLocal_reads (o : Option (BitVec 24)) {w : Word} (h : w = one ((o.map BitVec.toNat).getD 0)) :
    field w 0 24 = (o.map BitVec.toNat).getD 0 ∧ clearAbove w 24 = true := by
  have hlt : (o.map BitVec.toNat).getD 0 < 2 ^ 24 := by
    cases o with
    | none => simp
    | some l => exact l.isLt
  have hw : w.toNat = (o.map BitVec.toNat).getD 0 := by
    rw [h, one, BitVec.toNat_ofNat]
    exact Nat.mod_eq_of_lt (by omega)
  refine ⟨?_, ?_⟩
  · rw [field_eq_div_mod, hw, pow_zero, Nat.div_one, Nat.mod_eq_of_lt hlt]
  · rw [clearAbove, hw]
    exact decide_eq_true hlt

/-- The operands of an entry in range give the entry back. -/
theorem validEntry?_of_operands {b : BankId} {e : Fin 32} {w : Window} {w1 w2 w3 w4 : Word} (hw : w.writable)
    (h : [w1, w2, w3, w4] = entryOperands b e (some w)) : validEntry? w1 w2 w3 w4 = some w := by
  obtain ⟨base, size, action, tap, localBase, permitsRead, permitsWrite, maxLength, hits⟩ := w
  obtain ⟨hlo, hhi, hperm, hmax, hhits⟩ := hw
  simp only [entryOperands, List.cons.injEq, and_true] at h
  obtain ⟨h1, rfl, h3, h4⟩ := h
  dsimp only at hlo hhi hperm hmax hhits
  have htapLt : (tap.map Fin.val).getD 0 < 8 := by
    cases tap with
    | none => simp
    | some k => have := k.isLt; simp; omega
  have hmaxLt : maxLength.getD 0 < 32 := by
    cases maxLength with
    | none => simp
    | some n => have := hmax n rfl; simp; omega
  obtain ⟨-, -, -, hasTap, hasLocal, hasMax, clear1⟩ := entryHead_reads b e _ _ _ h1
  obtain ⟨esize, eaction, eread, ewrite, etap, emax, clear3⟩ :=
    entryShape_reads action permitsRead permitsWrite (by omega) htapLt hmaxLt h3
  obtain ⟨elocal, clear4⟩ := entryLocal_reads localBase h4
  have eperms : field w3 7 2 ≠ 0 := by
    rcases hperm with hp | hp
    · exact field_ne_zero (k := 0) (by decide) (eread.trans hp)
    · exact field_ne_zero (k := 1) (by decide) (ewrite.trans hp)
  simp only [validEntry?, hasTap, hasLocal, hasMax, esize, eaction, eread, ewrite, etap, emax, elocal, action?_num]
  rw [if_pos]
  · have htapBack : (if tap.isSome then index? 4 ((tap.map Fin.val).getD 0) else none) = tap := by
      cases tap with
      | none => rfl
      | some k => exact index?_val k
    have hlocalBack :
        (if localBase.isSome then some (BitVec.ofNat 24 ((localBase.map BitVec.toNat).getD 0)) else none)
          = localBase := by
      cases localBase with
      | none => rfl
      | some l => simp
    have hmaxBack : (if maxLength.isSome then some (maxLength.getD 0) else none) = maxLength := by
      cases maxLength <;> rfl
    rw [htapBack, hlocalBack, hmaxBack, hhits]
  · refine ⟨clear1, clear3, clear4, hlo, hhi, eperms, ?_, ?_, ?_⟩
    · cases tap with
      | none => rfl
      | some k => simp
    · cases localBase with
      | none => rfl
      | some l => simp
    · cases maxLength with
      | none => rfl
      | some n => simpa using hmax n rfl

theorem entryBits_reads (z : BitVec 1) (e : BitVec 5) (b : BitVec 2) :
    (z ++ e ++ b : BitVec 8).extractLsb' 0 2 = b ∧ (z ++ e ++ b : BitVec 8).extractLsb' 2 5 = e
      ∧ (z ++ e ++ b : BitVec 8).getLsbD 7 = z.getLsbD 0 := by
  refine ⟨by ext i hi; simp; grind, by ext i hi; simp; grind, ?_⟩
  rw [BitVec.getLsbD_append, BitVec.getLsbD_append]
  simp

/-- With valid 0 only bank and index are read (R11). -/
theorem writeEntry?_of_empty {b : BankId} {e : Fin 32} {w1 : Word} (w2 w3 w4 : Word)
    (h : w1.extractLsb' 0 8 = (0#1 ++ BitVec.ofNat 5 e.val ++ BitVec.ofNat 2 b.num : BitVec 8)) :
    writeEntry? w1 w2 w3 w4 = some (b, e, none) := by
  obtain ⟨hb, he, hv⟩ := entryBits_reads 0#1 (BitVec.ofNat 5 e.val) (BitVec.ofNat 2 b.num)
  rw [← h] at hb he hv
  have hbank : field w1 0 2 = b.num := by
    have hx : w1.extractLsb' 0 2 = (w1.extractLsb' 0 8).extractLsb' 0 2 := by
      ext i hi
      simp
    rw [field, hx, hb]
    cases b <;> rfl
  have hindex : field w1 2 5 = e.val := by
    have hx : w1.extractLsb' 2 5 = (w1.extractLsb' 0 8).extractLsb' 2 5 := by
      ext i hi
      simp
    rw [field, hx, he, BitVec.toNat_ofNat]
    exact Nat.mod_eq_of_lt e.isLt
  have hvalid : w1.getLsbD 7 = false := by simpa using hv
  simp only [writeEntry?, hbank, hindex, hvalid, bank?_num, index?_val]
  rfl

theorem writeEntry?_of_operands {b : BankId} {e : Fin 32} {w : Window} {w1 w2 w3 w4 : Word} (hw : w.writable)
    (h : [w1, w2, w3, w4] = entryOperands b e (some w)) : writeEntry? w1 w2 w3 w4 = some (b, e, some w) := by
  have hentry := validEntry?_of_operands hw h
  simp only [entryOperands, List.cons.injEq, and_true] at h
  obtain ⟨hbank, hindex, hvalid, -⟩ := entryHead_reads b e _ _ _ h.1
  simp only [writeEntry?, hbank, hindex, hvalid, bank?_num, index?_val, hentry]
  rfl

/-- A field of the new entry out of range (R11, R189). -/
theorem validEntry?_eq_none {w1 w2 w3 w4 : Word}
    (h : w1.extractLsb' 11 21 ≠ 0 ∨ w3.extractLsb' 17 15 ≠ 0 ∨ w4.extractLsb' 24 8 ≠ 0 ∨
      (w3.extractLsb' 0 5).toNat < 4 ∨ 24 < (w3.extractLsb' 0 5).toNat ∨ w3.extractLsb' 5 2 = 3 ∨
      w3.extractLsb' 7 2 = 0 ∨ (w1.getLsbD 8 = true ∧ 4 ≤ (w3.extractLsb' 9 3).toNat) ∨
      (w1.getLsbD 10 = true ∧ ((w3.extractLsb' 12 5).toNat = 0 ∨ 16 < (w3.extractLsb' 12 5).toNat))) :
    validEntry? w1 w2 w3 w4 = none := by
  unfold validEntry?
  dsimp only
  split
  · rfl
  next action haction =>
    refine if_neg ?_
    rintro ⟨clear1, clear3, clear4, hlo, hhi, hperms, htap, -, hmax⟩
    rw [clearAbove_iff (by decide)] at clear1 clear3 clear4
    simp only [field] at hlo hhi hperms htap hmax haction
    rcases h with h | h | h | h | h | h | h | ⟨h, h'⟩ | ⟨h, h'⟩
    · exact h clear1
    · exact h clear3
    · exact h clear4
    · omega
    · omega
    · simp [h, action?] at haction
    · simp [h] at hperms
    · rw [if_pos h] at htap
      exact absurd (of_decide_eq_true htap) (by omega)
    · rw [if_pos h] at hmax
      exact absurd (of_decide_eq_true hmax) (by omega)

theorem writeEntry?_eq_none {w1 w2 w3 w4 : Word}
    (h : 2 ≤ field w1 0 2 ∨ (w1.getLsbD 7 = true ∧ validEntry? w1 w2 w3 w4 = none)) :
    writeEntry? w1 w2 w3 w4 = none := by
  unfold writeEntry?
  split
  next b i hb hi =>
    rcases h with h | ⟨hv, he⟩
    · rw [bank?_none h] at hb
      exact absurd hb (by simp)
    · rw [if_pos hv, he]
      rfl
  · rfl

/-- Settles O39: what the operands give is read back by `writeEntry?`, and goes into an OPEN bank alone
(`State.taken_edit`). -/
theorem writeEntryStoresWhatIsGiven : Obligations.WriteEntryStoresWhatIsGiven := by
  intro s i r w1 w2 w3 w4 h
  refine ⟨fun b e o ho => ?_, fun hbad => ?_⟩
  · have hgiven : writeEntry? w1 w2 w3 w4 = some (b, e, o) := by
      rcases ho with ⟨w, rfl, hw, hwords⟩ | ⟨rfl, hbits⟩
      · exact writeEntry?_of_operands hw hwords
      · exact writeEntry?_of_empty w2 w3 w4 hbits
    exact State.taken_edit h rfl fun u => by simp only [writeEntryBody, hgiven]
  · have hnone : writeEntry? w1 w2 w3 w4 = none := by
      refine writeEntry?_eq_none ?_
      rcases hbad with hb | ⟨hv, hfield⟩
      · exact .inl hb
      · exact .inr ⟨hv, validEntry?_eq_none hfield⟩
    exact State.taken_refuse h rfl (by simp only [writeEntryBody, hnone])

end Sys2Proof.Machine

/-! ## The classifier's passes and refusals -/

namespace Sys2Proof.Machine

/-! ### What a decision on the head packet leads to (R27, R40, R41) -/

/-- The head packet is disposed of at a port in UP, from any state that has the same upper port and buffer. -/
theorem State.disposeHead_of_up {s : State} {p : Down} {rest : List Down} (hup : s.upper.state = .up)
    (hrx : s.upperRx = p :: rest) : ∃ o d, s.upper.Owes o d ∧ ∀ x : State, x.upper = s.upper → x.upperRx = s.upperRx →
      x.disposeHead = { x with upperRx := rest, upper := { s.upper with owed := o, draws := d } } := by
  obtain ⟨o, d, howes, hport⟩ := s.upper.owe_one_owes
  refine ⟨o, d, howes, fun x hx hq => ?_⟩
  rw [State.disposeHead, hx, hq, hrx, hport s.upper hup rfl rfl]
  rfl

/-- A refusal that the refusal queue can take (R39, R41). -/
theorem State.refuseHead_room {s : State} {p : Down} {rest : List Down} (hup : s.upper.state = .up)
    (hrx : s.upperRx = p :: rest) (hroom : s.canRefuse = true) (r : Refused) :
    ∃ o d, s.upper.Owes o d ∧ s.refuseHead r = { s with
      classifier := { s.classifier with refusals := s.classifier.refusals ++ [r] }
      mgmt := { s.mgmt with refusals := bump s.mgmt.refusals }
      upperRx := rest, upper := { s.upper with owed := o, draws := d } } := by
  obtain ⟨o, d, howes, hdispose⟩ := State.disposeHead_of_up hup hrx
  refine ⟨o, d, howes, ?_⟩
  rw [State.refuseHead, if_pos hroom, hdispose]
  all_goals rfl

/-- A refusal that the refusal queue cannot take stalls the classifier (R41). -/
theorem State.refuseHead_full {s : State} (hfull : s.canRefuse = false) (r : Refused) :
    s.refuseHead r = { s with classifier := { s.classifier with stall := .onRefusal r } } := by
  rw [State.refuseHead, if_neg (by simp [hfull])]

/-- A pass that the lower transmit queue can take (R29, R32, R40). -/
theorem State.passHead_room {s : State} {p : Down} {rest : List Down} (hup : s.upper.state = .up)
    (hrx : s.upperRx = p :: rest) (hlower : s.lower.state = .up) (hroom : s.lowerTx.length < 8) :
    ∃ o d, s.upper.Owes o d ∧ s.passHead p = { s with
      lowerTx := s.lowerTx ++ [{ packet := p.descended, drain := false }]
      upperRx := rest, upper := { s.upper with owed := o, draws := d } } := by
  obtain ⟨o, d, howes, hdispose⟩ := State.disposeHead_of_up hup hrx
  refine ⟨o, d, howes, ?_⟩
  have hcap : s.lowerTx.length < queueCapacity := hroom
  rw [State.passHead, if_pos hlower, if_pos hcap, hdispose]
  all_goals rfl

/-- A pass that the lower transmit queue cannot take stalls the classifier (R40). -/
theorem State.passHead_full {s : State} (hlower : s.lower.state = .up) (hfull : 8 ≤ s.lowerTx.length) (p : Down) :
    s.passHead p = { s with classifier := { s.classifier with stall := .onLower p } } := by
  rw [State.passHead, if_pos hlower, if_neg (by unfold queueCapacity; omega)]

/-- A pass while the lower port is not UP is refused NO_ROUTE (R29, R32). -/
theorem State.passHead_down {s : State} (hlower : s.lower.state ≠ .up) (p : Down) :
    s.passHead p = s.refuseHead (p.refusal .noRoute) := by
  rw [State.passHead, if_neg hlower]

/-! ### The decision -/

theorem State.exec_classifyPacket {s : State} (hlow : s.resetLow = false) : exec .classifyPacket s = .next s.classify :=
  State.taken_of_released hlow

/-- The classifier, neither paused nor stalled, takes the request at the head (R27). -/
theorem State.classify_request {s : State} {q : Request} {rest : List Down} (hp : s.classifier.paused = false)
    (hs : s.classifier.stall = .none) (hrx : s.upperRx = .request q :: rest) : s.classify = s.classifyRequest q := by
  rw [State.classify, if_neg (by simp [hp, hs]), hrx]

/-- The classifier, neither paused nor stalled, takes the MGMT at the head (R27). -/
theorem State.classify_mgmt {s : State} {m : MgmtPacket} {rest : List Down} (hp : s.classifier.paused = false)
    (hs : s.classifier.stall = .none) (hrx : s.upperRx = .mgmt m :: rest) : s.classify = s.classifyMgmt m := by
  rw [State.classify, if_neg (by simp [hp, hs]), hrx]

/-- A request that matches an entry: its hit is counted, and the entry's action decides (R5). -/
theorem State.classifyRequest_match {s : State} {q : Request} {b : BankId} {e : Fin 32} {w : Window}
    (hsel : s.windows.selector = some b) (hm : (s.bank b).match? q.address = some e)
    (hw : (s.bank b).entries[e] = some w) :
    (w.action = .pass → s.classifyRequest q = (s.modBank b fun x => x.countHit e).passHead (.request q)) ∧
    (w.action = .reject → s.classifyRequest q =
      (s.modBank b fun x => x.countHit e).refuseHead ((Down.request q).refusal .refused)) ∧
    (w.action = .claim → s.classifyRequest q = (s.modBank b fun x => x.countHit e).claimHead b e w q) := by
  rw [State.classifyRequest, hsel]
  simp only [hm, hw]
  refine ⟨fun ha => ?_, fun ha => ?_, fun ha => ?_⟩ <;> rw [ha]

/-- A request that matches no entry: the miss action decides (R6). -/
theorem State.classifyRequest_miss {s : State} {q : Request} {b : BankId} (hsel : s.windows.selector = some b)
    (hm : (s.bank b).match? q.address = none) :
    ((s.bank b).missAction = .pass → s.classifyRequest q = s.passHead (.request q)) ∧
    ((s.bank b).missAction = .reject → s.classifyRequest q = s.refuseHead ((Down.request q).refusal .refused)) := by
  rw [State.classifyRequest, hsel]
  simp only [hm]
  refine ⟨fun ha => ?_, fun ha => ?_⟩ <;> rw [ha]

/-- Settles O23: every way to a pass ends in `State.passHead`, from a state with the same ports and queues. -/
theorem passesGoDownOrAreRefused : Obligations.PassesGoDownOrAreRefused := by
  intro s u p rest hlow hup hp hs hrx hway
  rw [State.exec_classifyPacket hlow]
  have hpass : s.classify = u.passHead p ∧ ∃ w, u = { s with windows := w } := by
    rcases hway with ⟨m, rfl, hhop, hu⟩ | ⟨q, rfl, hsel, hu⟩ | ⟨q, b, rfl, hsel, hm, ha, hu⟩
      | ⟨q, b, e, w, rfl, hsel, hm, hw, ha, hu⟩
    all_goals subst hu
    · exact ⟨by rw [State.classify_mgmt hp hs hrx, State.classifyMgmt, if_pos hhop], u.windows, rfl⟩
    · exact ⟨by rw [State.classify_request hp hs hrx, State.classifyRequest, hsel], u.windows, rfl⟩
    · exact ⟨(State.classify_request hp hs hrx).trans ((State.classifyRequest_miss hsel hm).1 ha), u.windows, rfl⟩
    · exact ⟨(State.classify_request hp hs hrx).trans ((State.classifyRequest_match hsel hm hw).1 ha), _, rfl⟩
  obtain ⟨hexec, w, rfl⟩ := hpass
  rw [hexec]
  refine ⟨fun hl hroom => ?_, fun hl hfull => ?_, fun hl hroom => ?_, fun hl hfull => ?_⟩
  · obtain ⟨o, d, howes, h⟩ := State.passHead_room (s := { s with windows := w }) hup hrx hl hroom
    refine ⟨o, d, howes, ?_⟩
    rw [h]
    cases p <;> rfl
  · rw [State.passHead_full (s := { s with windows := w }) hl hfull]
  · rw [State.passHead_down (s := { s with windows := w }) hl]
    obtain ⟨o, d, howes, h⟩ := State.refuseHead_room (s := { s with windows := w }) hup hrx hroom (p.refusal .noRoute)
    exact ⟨o, d, howes, congrArg _ h⟩
  · rw [State.passHead_down (s := { s with windows := w }) hl, State.refuseHead_full (s := { s with windows := w }) hfull]

/-! ### Claims turned away (R33 to R36) -/

/-- Some place of a table holds a value that satisfies a condition. -/
theorem any_toList_iff {α : Type} {n : Nat} {v : Vector (Option α) n} {f : Option α → Bool} (hf : f none = false) :
    v.toList.any f = true ↔ ∃ (i : Fin n) (r : α), v[i] = some r ∧ f (some r) = true := by
  rw [List.any_eq_true]
  constructor
  · rintro ⟨o, ho, hfo⟩
    obtain ⟨k, hk, hv⟩ := Vector.mem_iff_getElem.1 (Vector.mem_toList_iff.1 ho)
    cases o with
    | none => simp [hf] at hfo
    | some r => exact ⟨⟨k, hk⟩, r, hv, hfo⟩
  · rintro ⟨i, r, hi, hfr⟩
    exact ⟨some r, Vector.mem_toList_iff.2 (hi ▸ Vector.getElem_mem _), hfr⟩

theorem State.tagInUse_iff (s : State) (tag : Tag) : s.tagInUse tag = true ↔
    (∃ i r, s.transAt i = some r ∧ r.tag = tag) ∨ ∃ i r, s.mgmtAt i = some r ∧ r.tag = tag := by
  rw [State.tagInUse, Bool.or_eq_true, any_toList_iff rfl, any_toList_iff rfl]
  simp only [beq_iff_eq]
  rfl

open Classical in
/-- The claim checks in their order, in the terms of the statements (R33 to R36). -/
theorem State.claimCheck_eq {s : State} {w : Window} {q : Request} {k : Fin 4} (hk : w.tap = some k) :
    s.claimCheck w q =
      if ¬ ((q.kind = .read → w.permitsRead = true) ∧ (q.kind = .write → w.permitsWrite = true)) then some .denied
      else if w.maxLength.getD 16 < q.length then some .tooLong
      else if w.base.toNat + 2 ^ w.sizeExponent ≤ q.address.toNat + q.length - 1 then some .boundary
      else if (s.tap k).state = .disabled ∨ ((s.tap k).state = .issued ∧ (s.tap k).disablePending = true) then
        some .tapDisabled
      else if (s.tap k).state = .faulted then some .tapFault
      else if (∃ i r, s.transAt i = some r ∧ r.tag = q.tag) ∨ ∃ i r, s.mgmtAt i = some r ∧ r.tag = q.tag then
        some .tagInUse
      else if 6 ≤ (s.tap k).queue.length then some .queueFull
      else if ∀ i, s.transAt i ≠ none then some .branchFull
      else none := by
  have hdenied : (!w.permits q.kind) = true
      ↔ ¬ ((q.kind = .read → w.permitsRead = true) ∧ (q.kind = .write → w.permitsWrite = true)) := by
    cases hq : q.kind <;> simp [Window.permits]
  have hfull : s.freeTrans?.isNone = true ↔ ∀ i, s.transAt i ≠ none := by
    rw [Option.isNone_iff_eq_none, State.freeTrans?, find?_finRange_eq_none]
    simp [Option.isSome_iff_ne_none]
  have htap : w.claimTap = k := by simp [Window.claimTap, hk]
  rw [State.claimCheck, htap]
  exact if_congr hdenied rfl (if_congr .rfl rfl (if_congr .rfl rfl (if_congr .rfl rfl (if_congr .rfl rfl
    (if_congr (s.tagInUse_iff q.tag) rfl (if_congr .rfl rfl (if_congr hfull rfl rfl)))))))

theorem State.claimHead_refused {s : State} {b : BankId} {e : Fin 32} {w : Window} {q : Request} {code : Code}
    (h : s.claimCheck w q = some code) : s.claimHead b e w q = s.refuseHead ((Down.request q).refusal code) := by
  rw [State.claimHead, h]

/-- Settles O25: every way to a refusal ends in `State.refuseHead`, from a state with the same ports and queues. -/
theorem refusedRequestsCarryTheFirstFailingCheck : Obligations.RefusedRequestsCarryTheFirstFailingCheck := by
  intro s u q rest b code hlow hup hp hs hrx hsel hway
  rw [State.exec_classifyPacket hlow, State.classify_request hp hs hrx]
  have hrefuse : s.classifyRequest q = u.refuseHead ((Down.request q).refusal code)
      ∧ ∃ w, u = { s with windows := w } := by
    rcases hway with ⟨hm, ha, rfl, rfl⟩ | ⟨e, w, hm, hw, rfl, ⟨ha, rfl⟩ | ⟨ha, k, hk, hcheck⟩⟩
    · exact ⟨(State.classifyRequest_miss hsel hm).2 ha, u.windows, rfl⟩
    · exact ⟨(State.classifyRequest_match hsel hm hw).2.1 ha, _, rfl⟩
    · refine ⟨((State.classifyRequest_match hsel hm hw).2.2 ha).trans (State.claimHead_refused ?_), _, rfl⟩
      change s.claimCheck w q = _
      rw [State.claimCheck_eq hk]
      rcases hcheck with ⟨h1, rfl⟩ | ⟨h1, h2, rfl⟩ | ⟨h1, h2, h3, rfl⟩ | ⟨h1, h2, h3, h4, rfl⟩
        | ⟨h1, h2, h3, h4, h5, rfl⟩ | ⟨h1, h2, h3, h4, h5, h6, rfl⟩ | ⟨h1, h2, h3, h4, h5, h6, h7, rfl⟩
        | ⟨h1, h2, h3, h4, h5, h6, h7, h8, rfl⟩
      · rw [if_pos h1]
      · rw [if_neg h1, if_pos h2]
      · rw [if_neg h1, if_neg h2, if_pos h3]
      · rw [if_neg h1, if_neg h2, if_neg h3, if_pos h4]
      · rw [if_neg h1, if_neg h2, if_neg h3, if_neg h4, if_pos h5]
      · rw [if_neg h1, if_neg h2, if_neg h3, if_neg h4, if_neg h5, if_pos h6]
      · rw [if_neg h1, if_neg h2, if_neg h3, if_neg h4, if_neg h5, if_neg h6, if_pos h7]
      · rw [if_neg h1, if_neg h2, if_neg h3, if_neg h4, if_neg h5, if_neg h6, if_neg h7, if_pos h8]
  obtain ⟨hexec, w, rfl⟩ := hrefuse
  rw [hexec]
  refine ⟨fun hroom => ?_, fun hfull => ?_⟩
  · obtain ⟨o, d, howes, h⟩ := State.refuseHead_room (s := { s with windows := w }) hup hrx hroom
      ((Down.request q).refusal code)
    exact ⟨o, d, howes, congrArg _ h⟩
  · exact congrArg _ (State.refuseHead_full (s := { s with windows := w }) hfull _)

end Sys2Proof.Machine

/-! ## Branch reset -/

namespace Sys2Proof.Machine

/-! ### What a branch reset leaves of each block (R25, R67, R96, R112) -/

theorem Bank.hits_atBranchReset {b : Bank} {e : Fin 32} {w : Window} (h : b.atBranchReset.entries[e] = some w) :
    w.hits = 0 := by
  have hentry : b.atBranchReset.entries[e] = b.entries[e].map Window.unhit := by
    simp only [Bank.atBranchReset, Fin.getElem_fin, Vector.getElem_map]
    rfl
  rw [hentry] at h
  obtain ⟨x, -, rfl⟩ := Option.map_eq_some_iff.1 h
  rfl

theorem State.banks_branchReset (s : State) (b : BankId) :
    (s.branchReset.bank b).state = (s.bank b).state ∧ (s.branchReset.bank b).contents = (s.bank b).contents
      ∧ (s.branchReset.bank b).refs = 0
      ∧ ∀ (e : Fin 32) (w : Window), (s.branchReset.bank b).entries[e] = some w → w.hits = 0 := by
  rw [s.bank_branchReset]
  exact ⟨rfl, Bank.contents_atBranchReset _, rfl, fun e w h => Bank.hits_atBranchReset h⟩

theorem State.transAt_branchReset (s : State) (j : Fin 16) : s.branchReset.transAt j = none :=
  RecordTable.trans_empty j

theorem State.mgmtAt_branchReset (s : State) (j : Fin 3) : s.branchReset.mgmtAt j = none := by
  simp [State.mgmtAt, State.branchReset, RecordTable.empty]

/-- A tap at a branch reset, in the terms of the statements (R96, R191). -/
theorem Tap.atBranchReset_eq (p : Tap) : p.atBranchReset = { p with
    state := .disabled, disablePending := false, queue := [], ackTimer := none, retryTimer := none
    presented := none, driving := false, rises := [], transfers := p.transfersAtEnd, mode0 := false, mode1 := false
    counters := ⟨0, 0, 0, ({ p with counters := ⟨0, 0, 0, 0, 0⟩ } : Tap).lateAtEnd, 0⟩ } := by
  rw [Tap.atBranchReset, Tap.withdraw_eq]
  rfl

theorem State.tap_branchReset (s : State) (k : Fin 4) : s.branchReset.tap k = (s.tap k).atBranchReset := by
  simp [State.tap, State.branchReset]

theorem State.watch_branchReset (s : State) (n : Fin 2) :
    s.branchReset.watch n = { s.watch n with armed := false, hits := 0 } := by
  simp [State.watch, State.branchReset]

theorem State.ackLimit_branchReset (s : State) (k : Fin 4) : s.branchReset.mgmt.params.ackLimit[k] = 1000 := by
  simp [State.branchReset, Params.atReset]

/-! ### The reset that its answer sets off (R147) -/

/-- Settles O21: the sending of the answer is followed by `State.branchReset`, whose blocks are read off one by one. -/
theorem branchResetTakesEffectAsItsAnswerLeaves : Obligations.BranchResetTakesEffectAsItsAnswerLeaves := by
  intro s i r rest ⟨hlow, hup, hcredit, howed⟩ hpacket hchosen hqueue hr hanswer hop hpending
  have hexec : exec .arbiterSend s = s.taken (if s.upper.maySend then s.arbitrate else s) := rfl
  have hsend : s.upper.maySend = true := by
    change s.upper.state = .up at hup
    change 0 < s.upper.credit at hcredit
    change s.upper.owed = 0 at howed
    simp [Port.maySend, hup, hcredit, howed]
  have hends : s.endsReset r { code := .ok, result := [] } = true := by
    simp [State.endsReset, hpending, hop, Op.code]
  rw [hexec, State.taken_of_released hlow, if_pos hsend, State.arbitrate, hpacket]
  simp only [hchosen, State.sendMgmtResponse, hqueue, hr, hanswer, hends, if_true]
  refine ⟨_, rfl, rfl, rfl, rfl, rfl, rfl, rfl, rfl, rfl, fun b => State.banks_branchReset _ b,
    State.transAt_branchReset _, State.mgmtAt_branchReset _, rfl, rfl, rfl, fun k => ?_,
    State.watch_branchReset _, rfl, rfl, rfl, rfl, rfl, State.ackLimit_branchReset _, rfl, rfl, rfl, rfl, rfl,
    rfl, rfl, rfl, hlow⟩
  exact (State.tap_branchReset _ k).trans (Tap.atBranchReset_eq _)

/-! ### The reset that an upper link loss takes along (R149) -/

/-- Slots freed while there is room below 8 owe one credit each (R179). -/
theorem Port.owe_of_room (n : Nat) : ∀ p : Port, p.state = .up → p.owed + n ≤ 8 →
    p.owe n = { p with owed := p.owed + n } := by
  induction n with
  | zero => exact fun p _ _ => rfl
  | succ n ih =>
    intro p hup hroom
    have hlt : p.owed < 8 := by omega
    rw [Port.owe, if_pos hup, Port.oweOne, if_pos hlt, ih { p with owed := p.owed + 1 } hup (by dsimp only; omega)]
    simp only [Nat.add_assoc, Nat.add_comm 1 n]

/-- Of what an upper link loss does at a tap a branch reset leaves nothing (R96, R97). -/
theorem Tap.atBranchReset_atUpperLoss (p : Tap) : p.atUpperLoss.atBranchReset = p.atBranchReset := by
  unfold Tap.atUpperLoss
  split <;> rfl

theorem State.tap_endSession (s : State) (k : Fin 4) : s.endSession.tap k = (s.tap k).atUpperLoss := by
  simp [State.tap, State.endSession]

/-- Settles O16: the loss ends the session, and the reset follows in the same event; what each leaves of a block is read
off one by one. -/
theorem upperLinkLossTakesThePendingReset : Obligations.UpperLinkLossTakesThePendingReset := by
  intro s hlow hup hsilence hpending
  have hexec : exec (.silenceTimeout .upper) s = s.taken
      (if (s.port .upper).state = .up ∧ Timer.due (s.port .upper).silence then s.loseLink .upper else s) := rfl
  have hdue : (s.port .upper).state = .up ∧ Timer.due (s.port .upper).silence = true :=
    ⟨hup, (Timer.due_iff _).2 hsilence⟩
  have hlost : s.loseLink .upper = s.endSession.branchReset := if_pos hpending
  rw [hexec, State.taken_of_released hlow, if_pos hdue, hlost]
  have hlower : s.endSession.branchReset.lower
      = { s.lower.owe s.lowerRx.length with counters := ⟨0, 0, 0, 0, 0, 0, 0⟩ } := rfl
  refine ⟨_, rfl, rfl, fun hl hroom => ?_, fun hl => ?_, rfl, rfl, rfl, rfl, rfl, rfl, fun b => ?_,
    State.transAt_branchReset _, State.mgmtAt_branchReset _, rfl, rfl, rfl, fun k => ?_,
    State.watch_branchReset _, rfl, rfl, rfl, rfl, rfl, State.ackLimit_branchReset _, rfl, rfl, rfl, rfl, rfl,
    rfl, rfl, rfl, hlow⟩
  · rw [hlower, Port.owe_of_room _ _ hl hroom]
  · rw [hlower, Port.owe_of_not_up hl]
  · obtain ⟨hstate, hcontents, hrefs, hhits⟩ := s.endSession.banks_branchReset b
    have hkept := s.follows_endSession.toKeepsBanks
    exact ⟨hstate.trans (hkept.state b), hcontents.trans (hkept.contents b), hrefs, hhits⟩
  · rw [State.tap_branchReset, State.tap_endSession, Tap.atBranchReset_atUpperLoss, Tap.atBranchReset_eq]

end Sys2Proof.Machine

/-! ## The queues at every step

The invariant has a part that every event keeps at once, the places and the order of the queues (`State.QueuesFit`),
and a part that holds again once the slots an event frees have been taken (`State.Settled`). Most commands touch no
queue (`State.KeepsQueues`); the others end in one of the few shared operations that are dealt with here one by one. -/

namespace Sys2Proof.Machine

/-! ### The two parts of the invariant -/

/-- The queues keep within their places, drain packets stand in front, a stall has its packet, and every packet below
can be relayed (R39, R41, R43, R155, R169). -/
structure State.QueuesFit (s : State) : Prop where
  upperRx : s.upperRx.length ≤ 8
  lowerRx : s.lowerRx.length ≤ 8
  lowerTx : s.lowerTx.length ≤ 8
  refusals : s.classifier.refusals.length ≤ 8
  order : s.lowerTx.Pairwise fun a b => b.drain = true → a.drain = true
  stalled : s.classifier.stall ≠ .none → s.upperRx ≠ []
  relayable : ∀ u ∈ s.lowerRx, u.depthFull = false

/-- No free slot waits for what it could take: drain packets remain only under a full refusal queue, and a stall has its
cause (R40, R41, R43, R44). -/
structure State.Settled (s : State) : Prop where
  drained : (∃ q ∈ s.lowerTx, q.drain = true) → s.classifier.refusals.length = 8
  onLower : ∀ p, s.classifier.stall = .onLower p → s.lowerTx.length = 8 ∧ s.lower.state = .up
  onRefusal : ∀ r, s.classifier.stall = .onRefusal r → s.classifier.refusals.length = 8

theorem State.queuesAgree_iff {s : State} : s.QueuesAgree ↔ s.QueuesFit ∧ s.Settled := by
  constructor
  · rintro ⟨hurx, hlrx, hltx, href, horder, hdrain, hlower, hrefusal, hstall, hdepth⟩
    exact ⟨⟨hurx, hlrx, hltx, href, horder, hstall, hdepth⟩, ⟨hdrain, hlower, hrefusal⟩⟩
  · rintro ⟨⟨hurx, hlrx, hltx, href, horder, hstall, hdepth⟩, ⟨hdrain, hlower, hrefusal⟩⟩
    exact ⟨hurx, hlrx, hltx, href, horder, hdrain, hlower, hrefusal, hstall, hdepth⟩

/-- From `s` to `t` the buffers, the queues and the stall are kept, and the lower port stays UP. -/
structure State.KeepsQueues (s t : State) : Prop where
  upperRx : t.upperRx = s.upperRx
  lowerRx : t.lowerRx = s.lowerRx
  lowerTx : t.lowerTx = s.lowerTx
  refusals : t.classifier.refusals = s.classifier.refusals
  stall : t.classifier.stall = s.classifier.stall
  up : s.lower.state = .up → t.lower.state = .up

theorem State.KeepsQueues.refl (s : State) : s.KeepsQueues s := ⟨rfl, rfl, rfl, rfl, rfl, id⟩

theorem State.KeepsQueues.trans {s t u : State} (h : s.KeepsQueues t) (h' : t.KeepsQueues u) : s.KeepsQueues u :=
  ⟨h'.upperRx.trans h.upperRx, h'.lowerRx.trans h.lowerRx, h'.lowerTx.trans h.lowerTx, h'.refusals.trans h.refusals,
    h'.stall.trans h.stall, fun hl => h'.up (h.up hl)⟩

theorem State.KeepsQueues.queuesFit {s t : State} (h : s.KeepsQueues t) (hs : s.QueuesFit) : t.QueuesFit := by
  obtain ⟨hurx, hlrx, hltx, href, hstall, -⟩ := h
  refine ⟨?_, ?_, ?_, ?_, ?_, ?_, ?_⟩ <;> simp only [hurx, hlrx, hltx, href, hstall]
  exacts [hs.upperRx, hs.lowerRx, hs.lowerTx, hs.refusals, hs.order, hs.stalled, hs.relayable]

theorem State.KeepsQueues.settled {s t : State} (h : s.KeepsQueues t) (hs : s.Settled) : t.Settled := by
  obtain ⟨-, -, hltx, href, hstall, hup⟩ := h
  refine ⟨?_, ?_, ?_⟩ <;> simp only [hltx, href, hstall]
  · exact hs.drained
  · exact fun p hp => (hs.onLower p hp).imp_right hup
  · exact hs.onRefusal

theorem State.KeepsQueues.queuesAgree {s t : State} (h : s.KeepsQueues t) (hs : s.QueuesAgree) : t.QueuesAgree := by
  obtain ⟨hfit, hsettled⟩ := State.queuesAgree_iff.1 hs
  exact State.queuesAgree_iff.2 ⟨h.queuesFit hfit, h.settled hsettled⟩

/-! ### The drain (R43) -/

/-- Behind the drain packets in front no drain packet stands. -/
theorem drain_of_mem_dropWhile {l : List QueuedPass} (hl : l.Pairwise fun a b => b.drain = true → a.drain = true) :
    ∀ q ∈ l.dropWhile (fun q => q.drain), q.drain = false := by
  induction l with
  | nil => simp
  | cons x rest ih =>
    obtain ⟨hx, hrest⟩ := List.pairwise_cons.1 hl
    by_cases hd : x.drain = true
    · rw [List.dropWhile_cons_of_pos hd]
      exact ih hrest
    · rw [List.dropWhile_cons_of_neg hd]
      have hx' : x.drain = false := by simpa using hd
      intro q hq
      rcases List.mem_cons.1 hq with rfl | hq
      · exact hx'
      · simpa [hx'] using hx q hq

theorem State.lowerTx_drain (s : State) : s.drain.lowerTx = s.lowerTx.drop s.drainMoves.length := rfl

theorem State.refusals_drain (s : State) : s.drain.classifier.refusals
    = s.classifier.refusals ++ s.drainMoves.map fun q => q.packet.refusal .noRoute := rfl

/-- As many packets drain as there are drain packets in front, and no more than the refusal queue has free slots. -/
theorem State.length_drainMoves (s : State) : s.drainMoves.length
    = min (8 - s.classifier.refusals.length) (s.lowerTx.takeWhile fun q => q.drain).length := by
  simp [State.drainMoves, queueCapacity]

theorem State.queuesFit_drain {s : State} (hs : s.QueuesFit) : s.drain.QueuesFit where
  upperRx := hs.upperRx
  lowerRx := hs.lowerRx
  lowerTx := by
    have := hs.lowerTx
    rw [s.lowerTx_drain, List.length_drop]
    omega
  refusals := by
    have := hs.refusals
    rw [s.refusals_drain, List.length_append, List.length_map, s.length_drainMoves]
    omega
  order := hs.order.sublist (List.drop_sublist _ _)
  stalled := hs.stalled
  relayable := hs.relayable

/-- Drain packets that remain have filled the refusal queue (R43). -/
theorem State.refusals_full_of_drain {s : State} (hs : s.QueuesFit) (h : ∃ q ∈ s.drain.lowerTx, q.drain = true) :
    s.drain.classifier.refusals.length = 8 := by
  have hr := hs.refusals
  have hmoves := s.length_drainMoves
  by_cases hfew : 8 - s.classifier.refusals.length ≤ (s.lowerTx.takeWhile fun q => q.drain).length
  · rw [s.refusals_drain, List.length_append, List.length_map]
    omega
  · have hleft : s.drain.lowerTx = s.lowerTx.dropWhile fun q => q.drain := by
      rw [s.lowerTx_drain, hmoves, Nat.min_eq_right (by omega)]
      conv_lhs => arg 2; rw [← List.takeWhile_append_dropWhile (p := fun q : QueuedPass => q.drain) (l := s.lowerTx)]
      exact List.drop_left
    obtain ⟨q, hq, hd⟩ := h
    rw [hleft] at hq
    simp [drain_of_mem_dropWhile hs.order q hq] at hd

/-! ### The end of a stall (R40, R41) -/

/-- The refusal queue takes a refusal of the classifier while it has room and nothing drains (R41, R44). -/
theorem State.canRefuse_iff {s : State} :
    s.canRefuse = true ↔ s.classifier.refusals.length < 8 ∧ ¬ ∃ q ∈ s.lowerTx, q.drain = true := by
  rw [State.canRefuse, Bool.and_eq_true, decide_eq_true_iff]
  exact and_congr .rfl (by simp [State.draining])

/-- The refusal queue cannot take a refusal only while it is full, once the drain has moved on (R41, R43, R44). -/
theorem State.refusals_full_of_not_canRefuse {s : State} (hfit : s.QueuesFit)
    (hdrained : (∃ q ∈ s.lowerTx, q.drain = true) → s.classifier.refusals.length = 8) (h : ¬ s.canRefuse = true) :
    s.classifier.refusals.length = 8 := by
  have hle := hfit.refusals
  by_cases hd : ∃ q ∈ s.lowerTx, q.drain = true
  · exact hdrained hd
  · have hfull : ¬ s.classifier.refusals.length < 8 := fun hlt => h (State.canRefuse_iff.2 ⟨hlt, hd⟩)
    omega

/-- A refusal that enters a queue with room leaves the queues agreed. -/
theorem State.queuesAgree_refuse {s t : State} {r : Refused} (hfit : s.QueuesFit) (h : s.canRefuse = true)
    (hrefusals : t.classifier.refusals = s.classifier.refusals ++ [r]) (hstall : t.classifier.stall = .none)
    (hurx : t.upperRx = s.upperRx.tail) (hlrx : t.lowerRx = s.lowerRx) (hltx : t.lowerTx = s.lowerTx) :
    t.QueuesAgree := by
  obtain ⟨hroom, hnone⟩ := State.canRefuse_iff.1 h
  have hu := hfit.upperRx
  refine State.queuesAgree_iff.2 ⟨⟨?_, ?_, ?_, ?_, ?_, ?_, ?_⟩, ⟨?_, ?_, ?_⟩⟩ <;>
    simp only [hrefusals, hstall, hurx, hlrx, hltx]
  · rw [List.length_tail]; omega
  · exact hfit.lowerRx
  · exact hfit.lowerTx
  · rw [List.length_append, List.length_singleton]; omega
  · exact hfit.order
  · exact fun h => absurd rfl h
  · exact hfit.relayable
  · exact fun h => absurd h hnone
  · exact fun p hp => Stall.noConfusion hp
  · exact fun p hp => Stall.noConfusion hp

/-- A pass that enters a queue with room leaves the queues agreed. -/
theorem State.queuesAgree_enter {s t : State} {p : Down} (hfit : s.QueuesFit)
    (hdrained : (∃ q ∈ s.lowerTx, q.drain = true) → s.classifier.refusals.length = 8) (h : s.lowerTx.length < 8)
    (hltx : t.lowerTx = s.lowerTx ++ [{ packet := p.descended, drain := false }])
    (hstall : t.classifier.stall = .none) (hrefusals : t.classifier.refusals = s.classifier.refusals)
    (hurx : t.upperRx = s.upperRx.tail) (hlrx : t.lowerRx = s.lowerRx) : t.QueuesAgree := by
  have hu := hfit.upperRx
  refine State.queuesAgree_iff.2 ⟨⟨?_, ?_, ?_, ?_, ?_, ?_, ?_⟩, ⟨?_, ?_, ?_⟩⟩ <;>
    simp only [hrefusals, hstall, hurx, hlrx, hltx]
  · rw [List.length_tail]; omega
  · exact hfit.lowerRx
  · rw [List.length_append, List.length_singleton]; omega
  · exact hfit.refusals
  · exact List.pairwise_append.2 ⟨hfit.order, List.pairwise_singleton _ _, by simp⟩
  · exact fun h => absurd rfl h
  · exact hfit.relayable
  · rintro ⟨q, hq, hd⟩
    refine hdrained ⟨q, (List.mem_append.1 hq).resolve_right fun hq => ?_, hd⟩
    simp [List.mem_singleton.1 hq] at hd
  · exact fun p hp => Stall.noConfusion hp
  · exact fun p hp => Stall.noConfusion hp

/-- Once the drain has moved on, the end of a stall settles the queues (R40, R41). -/
theorem State.queuesAgree_endStall {s : State} (hfit : s.QueuesFit)
    (hdrained : (∃ q ∈ s.lowerTx, q.drain = true) → s.classifier.refusals.length = 8)
    (hup : ∀ p, s.classifier.stall = .onLower p → s.lower.state = .up) : s.endStall.QueuesAgree := by
  have hl := hfit.lowerTx
  unfold State.endStall
  split
  next hstall =>
    exact State.queuesAgree_iff.2 ⟨hfit, ⟨hdrained, by simp [hstall], by simp [hstall]⟩⟩
  next p hstall =>
    split
    next hroom => exact State.queuesAgree_enter hfit hdrained hroom rfl rfl rfl rfl rfl
    next hfull =>
      unfold queueCapacity at hfull
      exact State.queuesAgree_iff.2 ⟨hfit, ⟨hdrained, fun q hq => ⟨by omega, hup q hq⟩, by simp [hstall]⟩⟩
  next r hstall =>
    split
    next hroom => exact State.queuesAgree_refuse hfit hroom rfl rfl rfl rfl rfl
    next hfull =>
      refine State.queuesAgree_iff.2 ⟨hfit, ⟨hdrained, by simp [hstall], fun _ _ => ?_⟩⟩
      exact State.refusals_full_of_not_canRefuse hfit hdrained hfull

/-- What follows a freed slot settles the queues, whatever slots the event has freed (R40, R41, R43). -/
theorem State.queuesAgree_settle {s : State} (hfit : s.QueuesFit)
    (hup : ∀ p, s.classifier.stall = .onLower p → s.lower.state = .up) : s.settle.QueuesAgree :=
  State.queuesAgree_endStall (State.queuesFit_drain hfit) (State.refusals_full_of_drain hfit) hup

/-! ### Link losses (R42, R47, R176, R177) -/

/-- An upper link loss empties what the session has queued (R47, R176). -/
theorem State.queuesAgree_endSession {s : State} (hfit : s.QueuesFit) : s.endSession.QueuesAgree := by
  have hltx := (List.length_filter_le (fun q => !q.drain) s.lowerTx).trans hfit.lowerTx
  have hnone : ¬ ∃ q ∈ s.endSession.lowerTx, q.drain = true := by simp [State.endSession]
  refine State.queuesAgree_iff.2 ⟨⟨Nat.zero_le _, Nat.zero_le _, hltx, Nat.zero_le _, ?_, fun h => absurd rfl h, ?_⟩,
    ⟨fun h => absurd h hnone, fun _ h => Stall.noConfusion h, fun _ h => Stall.noConfusion h⟩⟩
  · exact hfit.order.sublist List.filter_sublist
  · exact fun _ h => absurd h List.not_mem_nil

theorem State.keepsQueues_branchReset (s : State) : s.KeepsQueues s.branchReset := ⟨rfl, rfl, rfl, rfl, rfl, id⟩

theorem State.queuesAgree_loseUpper {s : State} (hfit : s.QueuesFit) : s.loseUpper.QueuesAgree := by
  unfold State.loseUpper
  split
  · exact (State.keepsQueues_branchReset _).queuesAgree (State.queuesAgree_endSession hfit)
  · exact State.queuesAgree_endSession hfit

theorem Stall.atLowerLoss_ne_onLower (x : Stall) (p : Down) : x.atLowerLoss ≠ .onLower p := by
  cases x <;> simp [Stall.atLowerLoss]

theorem Stall.atLowerLoss_eq_none_iff {x : Stall} : x.atLowerLoss = .none ↔ x = .none := by
  cases x <;> simp [Stall.atLowerLoss]

/-- A flag's cause leaves the queues (R114). -/
theorem State.keepsQueues_raiseFlag (s : State) (n : Nat) : s.KeepsQueues (s.raiseFlag n) := by
  obtain ⟨a, h⟩ := s.raiseFlag_changes n
  rw [h]
  exact ⟨rfl, rfl, rfl, rfl, rfl, id⟩

/-- A lower link loss makes every packet in the lower transmit queue a drain packet, and the drain moves on
(R42, R43). -/
theorem State.queuesAgree_loseLower {s : State} (hfit : s.QueuesFit) (next : Port → Port) :
    (s.loseLower next).QueuesAgree := by
  refine (State.keepsQueues_raiseFlag _ _).queuesAgree (State.queuesAgree_settle ⟨hfit.upperRx, Nat.zero_le _, ?_,
    hfit.refusals, ?_, fun h => hfit.stalled fun hs => h (Stall.atLowerLoss_eq_none_iff.2 hs), ?_⟩ ?_)
  · simpa using hfit.lowerTx
  · exact List.pairwise_map.2 (List.pairwise_of_forall fun _ _ _ => rfl)
  · exact fun _ h => absurd h List.not_mem_nil
  · exact fun p h => absurd h (Stall.atLowerLoss_ne_onLower _ p)

theorem State.queuesAgree_loseLink {s : State} (hfit : s.QueuesFit) (p : PortId) : (s.loseLink p).QueuesAgree := by
  cases p
  · exact State.queuesAgree_loseUpper hfit
  · exact State.queuesAgree_loseLower hfit _

/-! ### Ports -/

/-- A change of a port that leaves it UP if it was. -/
theorem State.keepsQueues_modPort (s : State) (p : PortId) {f : Port → Port}
    (hf : ∀ x : Port, x.state = .up → (f x).state = .up) : s.KeepsQueues (s.modPort p f) where
  upperRx := by simp
  lowerRx := by simp
  lowerTx := by simp
  refusals := by simp
  stall := by simp
  up h := by
    cases p
    · exact h
    · exact hf s.lower h

@[simp] theorem Port.state_heard (p : Port) : p.heard.state = p.state := by
  unfold Port.heard
  split <;> rfl

@[simp] theorem Port.state_damaged (p : Port) : p.damaged.state = p.state := by
  unfold Port.damaged
  split
  · rfl
  · rfl
  · exact p.state_heard

@[simp] theorem Port.state_receiveCredit (p : Port) : p.receiveCredit.state = p.state := by
  unfold Port.receiveCredit
  split
  · split <;> exact p.state_heard
  · rfl

@[simp] theorem Port.state_countCheckFailure (p : Port) : p.countCheckFailure.state = p.state := Port.state_owe _ _

@[simp] theorem Port.state_countMalformed (p : Port) : p.countMalformed.state = p.state := Port.state_owe _ _

@[simp] theorem Port.state_countMisdirected (p : Port) : p.countMisdirected.state = p.state := Port.state_owe _ _

theorem State.keepsQueues_heard (s : State) (p : PortId) : s.KeepsQueues (s.modPort p Port.heard) :=
  s.keepsQueues_modPort p fun _ h => (Port.state_heard _).trans h

theorem State.keepsQueues_damaged (s : State) (p : PortId) : s.KeepsQueues (s.modPort p Port.damaged) :=
  s.keepsQueues_modPort p fun _ h => (Port.state_damaged _).trans h

theorem State.keepsQueues_announceIfDue (s : State) : s.KeepsQueues s.announceIfDue := by
  obtain ⟨a, h⟩ := s.announceIfDue_changes
  rw [h]
  exact ⟨rfl, rfl, rfl, rfl, rfl, id⟩

theorem State.keepsQueues_completeTraining (s : State) (p : PortId) : s.KeepsQueues (s.completeTraining p) := by
  unfold State.completeTraining
  split
  · cases p
    · exact (s.keepsQueues_modPort .upper fun _ _ => rfl).trans (State.keepsQueues_announceIfDue _)
    · exact (s.keepsQueues_modPort .lower fun _ _ => rfl).trans (State.keepsQueues_raiseFlag _ _)
  · exact .refl s

/-! ### Packets and HELLOs received (R155, R161, R174, R179) -/

theorem State.queuesAgree_failCheck {s : State} (hs : s.QueuesAgree) (p : PortId) : (s.failCheck p).QueuesAgree := by
  have hcount : (s.modPort p Port.countCheckFailure).QueuesAgree :=
    (s.keepsQueues_modPort p fun _ h => (Port.state_countCheckFailure _).trans h).queuesAgree hs
  unfold State.failCheck
  dsimp only
  split
  · exact State.queuesAgree_loseLink (State.queuesAgree_iff.1 hcount).1 p
  · exact hcount

/-- A packet that enters the upper receive buffer. -/
theorem State.queuesAgree_append_upperRx {s : State} (hs : s.QueuesAgree) (hroom : s.upperRx.length < 8) (p : Down) :
    ({ s with upperRx := s.upperRx ++ [p] } : State).QueuesAgree := by
  obtain ⟨hfit, hsettled⟩ := State.queuesAgree_iff.1 hs
  refine State.queuesAgree_iff.2 ⟨{ hfit with upperRx := ?_, stalled := fun _ => by simp },
    ⟨hsettled.drained, hsettled.onLower, hsettled.onRefusal⟩⟩
  dsimp only
  rw [List.length_append, List.length_singleton]
  omega

/-- A packet that enters the lower receive buffer. -/
theorem State.queuesAgree_append_lowerRx {s : State} (hs : s.QueuesAgree) (hroom : s.lowerRx.length < 8) {u : Up}
    (hu : u.depthFull = false) : ({ s with lowerRx := s.lowerRx ++ [u] } : State).QueuesAgree := by
  obtain ⟨hfit, hsettled⟩ := State.queuesAgree_iff.1 hs
  refine State.queuesAgree_iff.2 ⟨{ hfit with lowerRx := ?_, relayable := ?_ },
    ⟨hsettled.drained, hsettled.onLower, hsettled.onRefusal⟩⟩
  · dsimp only
    rw [List.length_append, List.length_singleton]
    omega
  · intro v hv
    rcases List.mem_append.1 hv with hv | hv
    · exact hfit.relayable v hv
    · rw [List.mem_singleton.1 hv, hu]

theorem State.queuesAgree_receiveUpper {s : State} (hs : s.QueuesAgree) (hroom : s.upperRx.length < 8)
    (chars : List PacketChar) : (s.receiveUpper chars).QueuesAgree := by
  unfold State.receiveUpper
  split
  · exact State.queuesAgree_failCheck hs .upper
  · exact (s.keepsQueues_modPort .upper fun _ h => (Port.state_countMalformed _).trans h).queuesAgree hs
  · exact (s.keepsQueues_modPort .upper fun _ h => (Port.state_countMisdirected _).trans h).queuesAgree hs
  next p _ =>
    have hcount : (s.modPort .upper Port.countReceived).QueuesAgree :=
      (s.keepsQueues_modPort .upper fun _ h => h).queuesAgree hs
    exact State.queuesAgree_append_upperRx hcount hroom p

theorem State.queuesAgree_relay {s : State} (hs : s.QueuesAgree) (hroom : s.lowerRx.length < 8) (u : Up) :
    (s.relay u).QueuesAgree := by
  have hcount : s.KeepsQueues (s.modPort .lower Port.countReceived) := s.keepsQueues_modPort .lower fun _ h => h
  have howed : s.KeepsQueues ((s.modPort .lower Port.countReceived).modPort .lower fun p => p.owe 1) :=
    hcount.trans (State.keepsQueues_modPort _ .lower fun _ h => (Port.state_owe _ _).trans h)
  unfold State.relay
  dsimp only
  split
  · exact howed.queuesAgree hs
  split
  · exact howed.queuesAgree hs
  next hu => exact State.queuesAgree_append_lowerRx (hcount.queuesAgree hs) hroom (by simpa using hu)

theorem State.queuesAgree_receiveLower {s : State} (hs : s.QueuesAgree) (hroom : s.lowerRx.length < 8)
    (chars : List PacketChar) : (s.receiveLower chars).QueuesAgree := by
  unfold State.receiveLower
  split
  · exact State.queuesAgree_failCheck hs .lower
  · exact (s.keepsQueues_modPort .lower fun _ h => (Port.state_countMalformed _).trans h).queuesAgree hs
  · exact (s.keepsQueues_modPort .lower fun _ h => (Port.state_countMisdirected _).trans h).queuesAgree hs
  · exact State.queuesAgree_relay hs hroom _

theorem State.queuesAgree_receivePacket {s : State} (hs : s.QueuesAgree) (p : PortId) (chars : List PacketChar) :
    (s.receivePacket p chars).QueuesAgree := by
  have hheard : (s.modPort p Port.heard).QueuesAgree := (s.keepsQueues_heard p).queuesAgree hs
  unfold State.receivePacket
  split
  · exact hs
  dsimp only
  split
  · exact State.KeepsQueues.queuesAgree (State.keepsQueues_modPort _ p fun _ h => h) hheard
  next hroom =>
    unfold queueCapacity at hroom
    cases p
    · exact State.queuesAgree_receiveUpper hheard (Nat.not_le.1 hroom) chars
    · exact State.queuesAgree_receiveLower hheard (Nat.not_le.1 hroom) chars

theorem State.queuesAgree_receiveHello {s : State} (hs : s.QueuesAgree) (p : PortId) (capacity : Nat) (ready : Bool) :
    (s.receiveHello p capacity ready).QueuesAgree := by
  unfold State.receiveHello
  split
  · exact hs
  · split
    · exact State.KeepsQueues.queuesAgree (s.keepsQueues_modPort p fun _ h => h) hs
    · have hhello : s.KeepsQueues (s.modPort p fun x => x.goodHello capacity ready) :=
        s.keepsQueues_modPort p fun _ h => h
      exact (hhello.trans (State.keepsQueues_completeTraining _ p)).queuesAgree hs
  · split
    · exact (s.keepsQueues_heard p).queuesAgree hs
    · exact State.queuesAgree_loseLink (State.queuesAgree_iff.1 hs).1 p

/-! ### The classifier (R27 to R41) -/

/-- The state of a classifier that takes a packet: the queues agree, it is not stalled, and a packet waits (R27). -/
structure State.Classifying (s : State) : Prop where
  queues : s.QueuesAgree
  running : s.classifier.stall = .none
  waiting : s.upperRx ≠ []

theorem State.KeepsQueues.classifying {s t : State} (h : s.KeepsQueues t) (hs : s.Classifying) : t.Classifying :=
  ⟨h.queuesAgree hs.queues, h.stall.trans hs.running, h.upperRx ▸ hs.waiting⟩

/-- The head packet leaves the buffer of a classifier that is not stalled. -/
theorem State.Classifying.disposeHead {s : State} (hs : s.Classifying) : s.disposeHead.QueuesAgree := by
  obtain ⟨hfit, hsettled⟩ := State.queuesAgree_iff.1 hs.queues
  refine State.queuesAgree_iff.2 ⟨{ hfit with upperRx := ?_, stalled := fun h => absurd hs.running h },
    ⟨hsettled.drained, hsettled.onLower, hsettled.onRefusal⟩⟩
  exact (List.length_tail.trans_le (Nat.sub_le _ _)).trans hfit.upperRx

theorem State.Classifying.refuseHead {s : State} (hs : s.Classifying) (r : Refused) : (s.refuseHead r).QueuesAgree := by
  obtain ⟨hfit, hsettled⟩ := State.queuesAgree_iff.1 hs.queues
  unfold State.refuseHead
  split
  next hroom => exact State.queuesAgree_refuse hfit hroom rfl hs.running rfl rfl rfl
  next hfull =>
    have hlen := State.refusals_full_of_not_canRefuse hfit hsettled.drained hfull
    exact State.queuesAgree_iff.2 ⟨{ hfit with stalled := fun _ => hs.waiting },
      ⟨hsettled.drained, fun _ h => Stall.noConfusion h, fun _ _ => hlen⟩⟩

theorem State.Classifying.passHead {s : State} (hs : s.Classifying) (p : Down) : (s.passHead p).QueuesAgree := by
  obtain ⟨hfit, hsettled⟩ := State.queuesAgree_iff.1 hs.queues
  unfold State.passHead
  split
  next hup =>
    split
    next hroom => exact State.queuesAgree_enter hfit hsettled.drained hroom rfl hs.running rfl rfl rfl
    next hfull =>
      have hfull : 8 ≤ s.lowerTx.length := Nat.not_lt.1 hfull
      exact State.queuesAgree_iff.2 ⟨{ hfit with stalled := fun _ => hs.waiting }, ⟨hsettled.drained,
        fun _ _ => ⟨Nat.le_antisymm hfit.lowerTx hfull, hup⟩, fun _ h => Stall.noConfusion h⟩⟩
  · exact hs.refuseHead _

/-- The kept claim leaves the queues but for the head of the buffer (R37). -/
theorem State.Classifying.allocate {s : State} (hs : s.Classifying) (i : Fin 16) (r : TransRecord) :
    (s.allocate i r).QueuesAgree :=
  State.Classifying.disposeHead (State.KeepsQueues.classifying (s := s) ⟨rfl, rfl, rfl, rfl, rfl, id⟩ hs)

/-- The kept MGMT leaves the queues but for the head of the buffer (R30). -/
theorem State.Classifying.keepMgmt {s : State} (hs : s.Classifying) (i : Fin 3) (m : MgmtPacket) :
    (s.keepMgmt i m).QueuesAgree :=
  State.Classifying.disposeHead (State.KeepsQueues.classifying (s := s) ⟨rfl, rfl, rfl, rfl, rfl, id⟩ hs)

theorem State.Classifying.claimHead {s : State} (hs : s.Classifying) (b : BankId) (e : Fin 32) (w : Window)
    (q : Request) : (s.claimHead b e w q).QueuesAgree := by
  unfold State.claimHead
  split
  · exact hs.refuseHead _
  · split
    · exact hs.allocate _ _
    · exact hs.queues

theorem State.Classifying.classifyRequest {s : State} (hs : s.Classifying) (q : Request) :
    (s.classifyRequest q).QueuesAgree := by
  unfold State.classifyRequest
  split
  · exact hs.passHead _
  next b _ =>
    split
    · split
      · exact hs.passHead _
      · exact hs.refuseHead _
    next e _ =>
      split
      · exact hs.queues
      · have hhit : (s.modBank b fun x => x.countHit e).Classifying :=
          State.KeepsQueues.classifying (s := s) ⟨rfl, rfl, rfl, rfl, rfl, id⟩ hs
        dsimp only
        split
        · exact hhit.passHead _
        · exact hhit.refuseHead _
        · exact hhit.claimHead b e _ q

theorem State.Classifying.classifyMgmt {s : State} (hs : s.Classifying) (m : MgmtPacket) :
    (s.classifyMgmt m).QueuesAgree := by
  unfold State.classifyMgmt
  split
  · exact hs.passHead _
  split
  · exact hs.refuseHead _
  split
  · exact hs.refuseHead _
  · exact hs.keepMgmt _ m

theorem State.queuesAgree_classify {s : State} (hs : s.QueuesAgree) : s.classify.QueuesAgree := by
  unfold State.classify
  split
  · exact hs
  next hfree =>
    have hrun : s.classifier.stall = .none := not_not.1 fun h => hfree (.inr h)
    split
    · exact hs
    next hrx => exact State.Classifying.classifyRequest ⟨hs, hrun, by simp [hrx]⟩ _
    next hrx => exact State.Classifying.classifyMgmt ⟨hs, hrun, by simp [hrx]⟩ _

/-! ### The transmitters (R180 to R182) -/

/-- The slot that a packet sent below leaves is taken (R40, R180). -/
theorem State.queuesAgree_lowerSend {s : State} (hs : s.QueuesAgree) {q : QueuedPass} {rest : List QueuedPass}
    (hq : s.lowerTx = q :: rest) (item : LineItem) :
    ({ s with lowerTx := rest, lower := s.lower.transmit item } : State).settle.QueuesAgree := by
  obtain ⟨hfit, hsettled⟩ := State.queuesAgree_iff.1 hs
  have hltx := hfit.lowerTx
  have horder := hfit.order
  rw [hq] at hltx horder
  refine State.queuesAgree_settle { hfit with lowerTx := ?_, order := (List.pairwise_cons.1 horder).2 }
    fun p hp => (hsettled.onLower p hp).2
  exact Nat.le_of_succ_le hltx

/-- The slot that a refusal sent up leaves is taken (R41, R43, R182). -/
theorem State.queuesAgree_sendRefusal {s : State} (hs : s.QueuesAgree) : s.sendRefusal.QueuesAgree := by
  obtain ⟨hfit, hsettled⟩ := State.queuesAgree_iff.1 hs
  unfold State.sendRefusal
  split
  · exact hs
  next r rest hr =>
    have hlen := hfit.refusals
    rw [hr] at hlen
    exact State.queuesAgree_settle { hfit with refusals := Nat.le_of_succ_le hlen }
      fun p hp => (hsettled.onLower p hp).2

theorem State.queuesAgree_sendRelay {s : State} (hs : s.QueuesAgree) : s.sendRelay.QueuesAgree := by
  obtain ⟨hfit, hsettled⟩ := State.queuesAgree_iff.1 hs
  unfold State.sendRelay
  split
  · exact hs
  next u rest hu =>
    have hlen := hfit.lowerRx
    have hdepth := hfit.relayable
    rw [hu] at hlen hdepth
    refine State.queuesAgree_iff.2 ⟨{ hfit with
      lowerRx := Nat.le_of_succ_le hlen, relayable := fun v hv => hdepth v (List.mem_cons_of_mem u hv) },
      ⟨hsettled.drained, fun p hp => ?_, hsettled.onRefusal⟩⟩
    exact (hsettled.onLower p hp).imp_right ((Port.state_owe _ _).trans ·)

theorem State.keepsQueues_sendMgmtResponse (s : State) : s.KeepsQueues s.sendMgmtResponse := by
  unfold State.sendMgmtResponse
  split
  · exact .refl s
  split
  · exact .refl s
  split
  · exact .refl s
  dsimp only
  split
  · refine State.KeepsQueues.trans ?_ (State.keepsQueues_branchReset _)
    exact ⟨rfl, rfl, rfl, rfl, rfl, id⟩
  · exact ⟨rfl, rfl, rfl, rfl, rfl, id⟩

theorem State.keepsQueues_sendLocalResponse (s : State) : s.KeepsQueues s.sendLocalResponse := by
  unfold State.sendLocalResponse
  split
  · exact .refl s
  next i _ _ =>
    split
    · exact .refl s
    next r _ =>
      obtain ⟨tr, w, h⟩ := (s.transmitUp r.packet).freeRecord_changes i
      dsimp only
      rw [h]
      exact ⟨rfl, rfl, rfl, rfl, rfl, id⟩

theorem State.queuesAgree_arbitrate {s : State} (hs : s.QueuesAgree) : s.arbitrate.QueuesAgree := by
  unfold State.arbitrate
  split
  next a _ =>
    have hsent : s.KeepsQueues (s.sendAttention a) := ⟨rfl, rfl, rfl, rfl, rfl, id⟩
    exact hsent.queuesAgree hs
  split
  · exact s.keepsQueues_sendMgmtResponse.queuesAgree hs
  · exact s.keepsQueues_sendLocalResponse.queuesAgree hs
  · exact State.queuesAgree_sendRefusal hs
  · exact State.queuesAgree_sendRelay hs
  · exact hs

/-! ### The lower port's enable (R145) -/

/-- A lower port that is not UP changes without the queues noticing: no pass is held by a stall (R40, R42). -/
theorem State.queuesAgree_setLower {s : State} (hs : s.QueuesAgree) (hdown : s.lower.state ≠ .up) (x : Port) :
    ({ s with lower := x } : State).QueuesAgree := by
  obtain ⟨hfit, hsettled⟩ := State.queuesAgree_iff.1 hs
  exact State.queuesAgree_iff.2 ⟨{ hfit with },
    ⟨hsettled.drained, fun p hp => absurd (hsettled.onLower p hp).2 hdown, hsettled.onRefusal⟩⟩

/-- A change of the enable of a lower port that is DOWN while it is off. -/
theorem State.queuesAgree_applyEnable {s : State} (hs : s.QueuesAgree) {before : Bool}
    (hoff : before = false → s.lower.state = .down) (after : Bool) : (s.applyEnable before after).QueuesAgree := by
  unfold State.applyEnable
  split
  · exact hs
  next hne =>
    split
    next hon =>
      have hdown : s.lower.state = .down := hoff (by cases before <;> simp_all)
      exact State.queuesAgree_setLower hs (by simp [hdown]) _
    · split
      · exact State.queuesAgree_loseLower (State.queuesAgree_iff.1 hs).1 _
      next hdown => exact State.queuesAgree_setLower hs hdown _

/-! ### The events of a tap port leave the queues -/

/-- An event that changes the records, the tables and the taps alone. -/
theorem State.KeepsQueues.of_changes {s t : State}
    (h : ∃ rs w ts, t = { s with records := rs, windows := w, taps := ts }) : s.KeepsQueues t := by
  obtain ⟨rs, w, ts, rfl⟩ := h
  exact ⟨rfl, rfl, rfl, rfl, rfl, id⟩

theorem State.keepsQueues_modTap (s : State) (t : Fin 4) (f : Tap → Tap) : s.KeepsQueues (s.modTap t f) :=
  ⟨rfl, rfl, rfl, rfl, rfl, id⟩

theorem State.keepsQueues_answer (s : State) (i : Fin 16) (code : Code) (data : Option (List Word)) :
    s.KeepsQueues (s.answer i code data) := by
  obtain ⟨tr, lr, ts, h⟩ := s.answer_changes i code data
  exact .of_changes ⟨_, _, _, h⟩

theorem State.keepsQueues_answerAll (s : State) (is : List (Fin 16)) (code : Code) :
    s.KeepsQueues (s.answerAll is code) := by
  obtain ⟨tr, lr, ts, h⟩ := s.answerAll_changes is code
  exact .of_changes ⟨_, _, _, h⟩

theorem State.keepsQueues_issue (s : State) (t : Fin 4) (i : Fin 16) (r : TransRecord) :
    s.KeepsQueues (s.issue t i r) :=
  ⟨rfl, rfl, rfl, rfl, rfl, id⟩

theorem State.keepsQueues_examine (s : State) (t : Fin 4) : s.KeepsQueues (s.examine t) := by
  unfold State.examine
  split
  · exact .refl s
  split
  · exact .refl s
  split
  · refine State.KeepsQueues.trans ?_ (State.keepsQueues_raiseFlag _ _)
    exact ⟨rfl, rfl, rfl, rfl, rfl, id⟩
  · exact s.keepsQueues_issue t _ _

theorem State.keepsQueues_riseOfAck (s : State) (t : Fin 4) (k : BitVec 2) : s.KeepsQueues (s.riseOfAck t k) := by
  unfold State.riseOfAck
  split
  · exact s.keepsQueues_modTap t _
  · exact .of_changes (s.takeStrobe_changes t k)

theorem State.keepsQueues_takeByte (s : State) (t : Fin 4) (b : Byte) : s.KeepsQueues (s.takeByte t b) := by
  have hdones : ∀ (f : Tap → Tap) (l : List Transfer),
      s.KeepsQueues (l.foldl (fun c x => c.takeDone t x) (s.modTap t f)) := fun f l =>
    (s.keepsQueues_modTap t f).trans (.of_changes (State.takeDones_changes t l _))
  unfold State.takeByte
  dsimp only
  split
  · exact (hdones _ _).trans (State.keepsQueues_examine _ t)
  · exact hdones _ _

theorem State.keepsQueues_faultTap (s : State) (t : Fin 4) : s.KeepsQueues (s.faultTap t) := by
  unfold State.faultTap
  split
  · obtain ⟨rs, ts, h⟩ := s.completeDisable_changes t
    exact .of_changes ⟨_, _, _, h⟩
  · exact (s.keepsQueues_answerAll _ _).trans (State.keepsQueues_modTap _ t _)

theorem State.keepsQueues_timeOut (s : State) (t : Fin 4) : s.KeepsQueues (s.timeOut t) := by
  unfold State.timeOut
  split
  · exact .refl s
  next i _ _ =>
    split
    · exact .refl s
    next r _ =>
      exact ((s.keepsQueues_modTap t _).trans ((State.keepsQueues_modTap _ t _).trans
        (.of_changes (State.endIssued_changes _ t i r .tapTimeout none)))).trans
          ((State.keepsQueues_faultTap _ t).trans (State.keepsQueues_raiseFlag _ _))

theorem State.keepsQueues_reissue (s : State) (t : Fin 4) : s.KeepsQueues (s.reissue t) := by
  unfold State.reissue
  split
  · exact .refl s
  split
  · exact .refl s
  · exact ⟨rfl, rfl, rfl, rfl, rfl, id⟩

theorem State.keepsQueues_sampleLine (s : State) (t : Fin 4) (line : LineId) (level : Bool) :
    s.KeepsQueues (s.sampleLine t line level) := by
  unfold State.sampleLine
  split
  · exact .refl s
  dsimp only
  split
  · exact (s.keepsQueues_modTap t _).trans (State.keepsQueues_raiseFlag _ _)
  · exact s.keepsQueues_modTap t _

/-! ### Management operations -/

/-- What an outcome comes to is the state its body leaves, but for the record table (R130, R131). -/
theorem State.conclude_changes (s : State) (i : Fin 3) (b : Begun) :
    ∃ rs, s.conclude i b = { b.state s with records := rs } := by
  cases b with
  | refuse code =>
    obtain ⟨m, q, p, h⟩ := s.finishMgmt_changes i code []
    exact ⟨_, h⟩
  | done result t =>
    obtain ⟨m, q, p, h⟩ := t.finishMgmt_changes i .ok result
    exact ⟨_, h⟩
  | span t => exact ⟨t.records, rfl⟩

/-- To begin an operation changes, besides the record table, what its body changes, or nothing (R129, R130). -/
theorem State.begin_outcome (s : State) (op : Op) (body : State → List Word → Begun) :
    ∃ u v rs rs', u = { s with records := rs } ∧ (v = u ∨ ∃ ws, v = (body u ws).state u)
      ∧ s.begin op body = { v with records := rs' } := by
  unfold State.begin
  split
  next i r _ =>
    split
    · dsimp only
      split
      · obtain ⟨rs', h⟩ := (s.startMgmt i r).conclude_changes i (body (s.startMgmt i r) r.operands)
        exact ⟨_, _, _, rs', rfl, .inr ⟨r.operands, rfl⟩, h⟩
      · obtain ⟨m, q, p, h⟩ := (s.startMgmt i r).finishMgmt_changes i .badOperand []
        exact ⟨_, _, _, _, rfl, .inl rfl, h⟩
    · exact ⟨s, s, s.records, s.records, rfl, .inl rfl, rfl⟩
  · exact ⟨s, s, s.records, s.records, rfl, .inl rfl, rfl⟩

/-- A change of the record table leaves the queues. -/
theorem State.keepsQueues_records (s : State) (rs : RecordTable) : s.KeepsQueues { s with records := rs } :=
  ⟨rfl, rfl, rfl, rfl, rfl, id⟩

/-- An operation whose body leaves the queues. -/
theorem State.keepsQueues_begin {op : Op} {body : State → List Word → Begun}
    (hbody : ∀ (u : State) ws, u.KeepsQueues ((body u ws).state u)) (s : State) : s.KeepsQueues (s.begin op body) := by
  obtain ⟨u, v, rs, rs', rfl, hv, h⟩ := s.begin_outcome op body
  rw [h]
  obtain rfl | ⟨ws, rfl⟩ := hv
  · exact s.keepsQueues_records rs'
  · exact (s.keepsQueues_records rs).trans ((hbody _ ws).trans (State.keepsQueues_records _ rs'))

/-- An operation whose body reads and changes nothing. -/
theorem State.keepsQueues_begin_reading {op : Op} {body : State → List Word → Begun}
    (hbody : ∀ (u : State) ws, (body u ws).state u = u) (s : State) : s.KeepsQueues (s.begin op body) :=
  State.keepsQueues_begin (fun u ws => by rw [hbody]; exact .refl u) s

/-- The operations' bodies that do no more than edit a bank, a tap, a record, a watch or the flags, or pause the
classifier. -/
def editingBodies : List (State → List Word → Begun) :=
  [writeEntryBody, clearBankBody, setMissActionBody, openBankBody, selectBankBody, clearHitCountsBody, tapEnableBody,
    tapRecoverBody, setTapLinesBody, setWatchBody, disarmWatchBody, releaseHoldBody, clearAttentionBody, branchResetBody]

/-- An operation that edits what no queue stands in: on every way through its body the fields of the queues stay. -/
theorem State.keepsQueues_begin_editing (s : State) {op : Op} {body : State → List Word → Begun}
    (h : body ∈ editingBodies) : s.KeepsQueues (s.begin op body) := by
  refine State.keepsQueues_begin (fun u ws => ?_) s
  simp only [editingBodies, List.mem_cons, List.not_mem_nil, or_false] at h
  rcases h with rfl | rfl | rfl | rfl | rfl | rfl | rfl | rfl | rfl | rfl | rfl | rfl | rfl | rfl
  all_goals
    delta writeEntryBody clearBankBody setMissActionBody openBankBody selectBankBody clearHitCountsBody tapEnableBody
      tapRecoverBody setTapLinesBody setWatchBody disarmWatchBody releaseHoldBody clearAttentionBody branchResetBody
    repeat' split
    all_goals exact ⟨rfl, rfl, rfl, rfl, rfl, id⟩

theorem State.keepsQueues_readCountersBody (s : State) (ws : List Word) :
    s.KeepsQueues ((readCountersBody s ws).state s) := by
  unfold readCountersBody
  split
  · split
    · dsimp only [Begun.state_done]
      split
      · unfold State.clearGroup
        split
        · exact s.keepsQueues_modPort _ fun _ h => h
        · exact s.keepsQueues_modTap _ _
        · exact ⟨rfl, rfl, rfl, rfl, rfl, id⟩
      · exact .refl s
    · exact .refl s
  · exact .refl s

theorem State.keepsQueues_disableAtOnce (s : State) (t : Fin 4) : s.KeepsQueues (s.disableAtOnce t) :=
  (s.keepsQueues_answerAll _ _).trans (State.keepsQueues_modTap _ t _)

theorem State.keepsQueues_tapDisableBody (s : State) (ws : List Word) :
    s.KeepsQueues ((tapDisableBody s ws).state s) := by
  unfold tapDisableBody
  split
  · split
    · exact .refl s
    next t _ =>
      split
      · exact ⟨rfl, rfl, rfl, rfl, rfl, id⟩
      · exact .refl s
      all_goals exact s.keepsQueues_disableAtOnce t
  · exact .refl s

theorem State.keepsQueues_discardHoldBody (s : State) (ws : List Word) :
    s.KeepsQueues ((discardHoldBody s ws).state s) := by
  unfold discardHoldBody
  split
  · split
    · exact .refl s
    · split
      · exact .refl s
      next i _ _ =>
        refine (s.keepsQueues_answer i .discarded none).trans ?_
        exact ⟨rfl, rfl, rfl, rfl, rfl, id⟩
  · exact .refl s

theorem State.keepsQueues_modAttention (s : State) (f : Attention → Attention) : s.KeepsQueues (s.modAttention f) :=
  ⟨rfl, rfl, rfl, rfl, rfl, id⟩

theorem State.keepsQueues_readAttentionBody (s : State) (ws : List Word) :
    s.KeepsQueues ((readAttentionBody s ws).state s) := by
  unfold readAttentionBody
  split
  · split
    · exact .refl s
    · dsimp only [Begun.state_done]
      split
      · exact s.keepsQueues_modAttention _
      · exact .refl s
  · exact .refl s

theorem State.keepsQueues_setAttentionEnablesBody (s : State) (ws : List Word) :
    s.KeepsQueues ((setAttentionEnablesBody s ws).state s) := by
  unfold setAttentionEnablesBody
  split
  · split
    · exact (s.keepsQueues_modAttention _).trans (State.keepsQueues_announceIfDue _)
    · exact .refl s
  · exact .refl s

theorem State.keepsQueues_acknowledgeAttentionBody (s : State) (ws : List Word) :
    s.KeepsQueues ((acknowledgeAttentionBody s ws).state s) := by
  unfold acknowledgeAttentionBody
  split
  · split
    · exact .refl s
    · split
      · exact .refl s
      · exact (s.keepsQueues_modAttention _).trans (State.keepsQueues_announceIfDue _)
  · exact .refl s

theorem State.keepsQueues_completeVerify (s : State) (i : Fin 3) (b : BankId) :
    s.KeepsQueues (s.completeVerify i b) := by
  unfold State.completeVerify
  split
  next e reason _ =>
    obtain ⟨m, q, p, h⟩ := s.finishMgmt_changes i .verifyFailed [one e.val, one reason.num]
    exact .of_changes ⟨_, _, _, h⟩
  · obtain ⟨m, q, p, h⟩ := (s.modBank b Bank.passed).finishMgmt_changes i .ok [one (s.bank b).validCount]
    exact .of_changes ⟨_, _, _, h⟩

/-- Set Parameter changes nothing of the queues but by the enable (R145). -/
theorem State.queuesAgree_setParameterBody {s : State} (hs : s.QueuesAgree)
    (hoff : s.mgmt.params.lowerEnable = false → s.lower.state = .down) (ws : List Word) :
    ((setParameterBody s ws).state s).QueuesAgree := by
  unfold setParameterBody
  split
  next w1 w2 =>
    split
    · exact hs
    next p _ =>
      dsimp only
      split
      · have hput : s.KeepsQueues { s with mgmt := { s.mgmt with params := s.mgmt.params.put p w2.toNat } } :=
          ⟨rfl, rfl, rfl, rfl, rfl, id⟩
        exact State.queuesAgree_applyEnable (hput.queuesAgree hs) hoff _
      · exact hs
  · exact hs

theorem State.queuesAgree_setParameter {s : State} (hs : s.QueuesAgree)
    (hoff : s.mgmt.params.lowerEnable = false → s.lower.state = .down) :
    (s.begin .setParameter setParameterBody).QueuesAgree := by
  obtain ⟨u, v, rs, rs', rfl, hv, h⟩ := s.begin_outcome .setParameter setParameterBody
  have hu : ({ s with records := rs } : State).QueuesAgree := (s.keepsQueues_records rs).queuesAgree hs
  rw [h]
  refine (State.keepsQueues_records v rs').queuesAgree ?_
  obtain rfl | ⟨ws, rfl⟩ := hv
  · exact hu
  · exact State.queuesAgree_setParameterBody hu hoff ws

/-! ### Every command -/

theorem State.KeepsQueues.of_taken {s u t : State} (h : s.taken u = .next t) (hu : s.KeepsQueues u) :
    s.KeepsQueues t := by
  rw [State.eq_of_taken h]
  split
  · exact .refl s
  · exact hu

theorem State.queuesAgree_of_taken {s u t : State} (h : s.taken u = .next t) (hs : s.QueuesAgree)
    (hu : u.QueuesAgree) : t.QueuesAgree := by
  rw [State.eq_of_taken h]
  split
  · exact hs
  · exact hu

/-- The commands that may move a packet, a refusal or the stall, or make the part anew. -/
def movesQueues : Instr → Bool
  | .powerUpReset | .packetReceived _ _ | .helloReceived _ _ | .silenceTimeout _ | .classifyPacket | .lowerSend
  | .arbiterSend | .setParameter => true
  | _ => false

/-- Every other command leaves the queues. -/
theorem State.keepsQueues_exec {c : Instr} {s t : State} (hc : movesQueues c = false) (h : exec c s = .next t) :
    s.KeepsQueues t := by
  cases c with
  | powerUpReset | packetReceived | helloReceived | silenceTimeout | classifyPacket | lowerSend | arbiterSend
  | setParameter => simp [movesQueues] at hc
  | resetAsserted => cases h; exact ⟨rfl, rfl, rfl, rfl, rfl, id⟩
  | creditReceived port payload =>
    refine .of_taken h ?_
    split
    · exact s.keepsQueues_modPort port fun _ h => (Port.state_receiveCredit _).trans h
    · exact s.keepsQueues_damaged port
  | idleReceived port payload =>
    refine .of_taken h ?_
    split
    · exact s.keepsQueues_heard port
    · exact s.keepsQueues_damaged port
  | damagedSymbolReceived port => exact .of_taken h (s.keepsQueues_damaged port)
  | helloPeriod port =>
    refine .of_taken h ?_
    split
    · have hsent : s.KeepsQueues (s.modPort port Port.sendHello) := s.keepsQueues_modPort port fun _ h => h
      exact hsent.trans (State.keepsQueues_completeTraining _ port)
    · exact .refl s
  | trainingRestart port =>
    refine .of_taken h ?_
    split
    · exact s.keepsQueues_modPort port fun _ h => h
    · exact .refl s
  | sendCredit port =>
    refine .of_taken h ?_
    split
    · exact s.keepsQueues_modPort port fun _ h => h
    · exact .refl s
  | examineHead tap =>
    refine .of_taken h ?_
    split
    · exact s.keepsQueues_examine tap
    · exact .refl s
  | tapAcknowledge tap input =>
    refine .of_taken h ?_
    cases input with
    | strobe k => exact s.keepsQueues_riseOfAck tap k
    | dataByte b => exact s.keepsQueues_takeByte tap b
    | release => exact .of_changes (s.releaseData_changes tap)
  | ackTimeout tap =>
    refine .of_taken h ?_
    split
    · exact s.keepsQueues_timeOut tap
    · exact .refl s
  | retryTimerExpiry tap =>
    refine .of_taken h ?_
    split
    · exact s.keepsQueues_reissue tap
    · exact .refl s
  | waitTimerExpiry index =>
    refine .of_taken h ?_
    split
    · exact .refl s
    · split
      · exact (s.keepsQueues_answer index _ _).trans (State.keepsQueues_modTap _ _ _)
      · exact .refl s
  | attentionLineAsserted tap line => exact .of_taken h (s.keepsQueues_sampleLine tap line true)
  | attentionLineReleased tap line => exact .of_taken h (s.keepsQueues_sampleLine tap line false)
  | reAnnounce =>
    refine .of_taken h ?_
    split
    · split
      · exact ⟨rfl, rfl, rfl, rfl, rfl, id⟩
      · exact .refl s
    · exact .refl s
  | verifyBankComplete =>
    refine .of_taken h ?_
    split
    · exact s.keepsQueues_completeVerify _ _
    · exact .refl s
  | unknownOperation =>
    refine .of_taken h ?_
    split
    next i r _ =>
      split
      · exact .refl s
      · obtain ⟨m, q, p, h⟩ := (s.startMgmt i r).finishMgmt_changes i .badOperation []
        exact .of_changes ⟨_, _, _, h⟩
    · exact .refl s
  | readIdentity => exact .of_taken h (State.keepsQueues_begin_reading (fun _ _ => rfl) s)
  | readBranchStatus => exact .of_taken h (State.keepsQueues_begin_reading (fun _ _ => rfl) s)
  | readRecord => exact .of_taken h (State.keepsQueues_begin_reading readRecordBody_reads s)
  | readCounters => exact .of_taken h (State.keepsQueues_begin State.keepsQueues_readCountersBody s)
  | writeEntry => exact .of_taken h (s.keepsQueues_begin_editing (by simp [editingBodies]))
  | readEntry => exact .of_taken h (State.keepsQueues_begin_reading readEntryBody_reads s)
  | clearBank => exact .of_taken h (s.keepsQueues_begin_editing (by simp [editingBodies]))
  | setMissAction => exact .of_taken h (s.keepsQueues_begin_editing (by simp [editingBodies]))
  | verifyBank => exact .of_taken h (State.keepsQueues_begin_reading verifyBankBody_reads s)
  | openBank => exact .of_taken h (s.keepsQueues_begin_editing (by simp [editingBodies]))
  | selectBank => exact .of_taken h (s.keepsQueues_begin_editing (by simp [editingBodies]))
  | clearHitCounts => exact .of_taken h (s.keepsQueues_begin_editing (by simp [editingBodies]))
  | tapEnable => exact .of_taken h (s.keepsQueues_begin_editing (by simp [editingBodies]))
  | tapDisable => exact .of_taken h (State.keepsQueues_begin State.keepsQueues_tapDisableBody s)
  | tapRecover => exact .of_taken h (s.keepsQueues_begin_editing (by simp [editingBodies]))
  | setTapLines => exact .of_taken h (s.keepsQueues_begin_editing (by simp [editingBodies]))
  | readTapStatus => exact .of_taken h (State.keepsQueues_begin_reading readTapStatusBody_reads s)
  | setWatch => exact .of_taken h (s.keepsQueues_begin_editing (by simp [editingBodies]))
  | disarmWatch => exact .of_taken h (s.keepsQueues_begin_editing (by simp [editingBodies]))
  | readWatch => exact .of_taken h (State.keepsQueues_begin_reading readWatchBody_reads s)
  | releaseHold => exact .of_taken h (s.keepsQueues_begin_editing (by simp [editingBodies]))
  | discardHold => exact .of_taken h (State.keepsQueues_begin State.keepsQueues_discardHoldBody s)
  | readHeldRequest => exact .of_taken h (State.keepsQueues_begin_reading readHeldRequestBody_reads s)
  | readAttention => exact .of_taken h (State.keepsQueues_begin State.keepsQueues_readAttentionBody s)
  | clearAttention => exact .of_taken h (s.keepsQueues_begin_editing (by simp [editingBodies]))
  | setAttentionEnables => exact .of_taken h (State.keepsQueues_begin State.keepsQueues_setAttentionEnablesBody s)
  | acknowledgeAttention => exact .of_taken h (State.keepsQueues_begin State.keepsQueues_acknowledgeAttentionBody s)
  | readParameter => exact .of_taken h (State.keepsQueues_begin_reading readParameterBody_reads s)
  | branchReset => exact .of_taken h (s.keepsQueues_begin_editing (by simp [editingBodies]))

theorem State.queuesAgree_reset : State.reset.QueuesAgree := State.queuesAgree_of_checks (by decide +kernel)

theorem State.queuesAgree_exec {c : Instr} {s t : State} (hs : s.QueuesAgree)
    (hoff : s.mgmt.params.lowerEnable = false → s.lower.state = .down) (h : exec c s = .next t) : t.QueuesAgree := by
  by_cases hc : movesQueues c = false
  · exact (State.keepsQueues_exec hc h).queuesAgree hs
  cases c with
  | powerUpReset =>
    cases h
    exact State.queuesAgree_reset
  | packetReceived port chars => exact State.queuesAgree_of_taken h hs (State.queuesAgree_receivePacket hs port chars)
  | helloReceived port payload =>
    refine State.queuesAgree_of_taken h hs ?_
    split
    · exact State.queuesAgree_receiveHello hs port _ _
    · exact (s.keepsQueues_damaged port).queuesAgree hs
  | silenceTimeout port =>
    refine State.queuesAgree_of_taken h hs ?_
    split
    · exact State.queuesAgree_loseLink (State.queuesAgree_iff.1 hs).1 port
    · exact hs
  | classifyPacket => exact State.queuesAgree_of_taken h hs (State.queuesAgree_classify hs)
  | lowerSend =>
    refine State.queuesAgree_of_taken h hs ?_
    split
    · exact hs
    next hq =>
      split
      · exact State.queuesAgree_lowerSend hs hq _
      · exact hs
  | arbiterSend =>
    refine State.queuesAgree_of_taken h hs ?_
    split
    · exact State.queuesAgree_arbitrate hs
    · exact hs
  | setParameter => exact State.queuesAgree_of_taken h hs (State.queuesAgree_setParameter hs hoff)
  | _ => exact absurd rfl hc

theorem State.keepsQueues_tick (s : State) : s.KeepsQueues s.tick := by
  unfold State.tick
  split
  · exact .refl s
  · exact ⟨rfl, rfl, rfl, rfl, rfl, id⟩

/-- Settles O56: a command that may move a packet ends in one of the shared operations above, and every other one leaves
the queues (`State.keepsQueues_exec`); that the ports agree matters to Set Parameter, whose enable acts on a lower port
in DOWN. -/
theorem stepKeepsQueuesAgree : Obligations.StepKeepsQueuesAgree := by
  intro s t hs hports h
  obtain ⟨-, henable, -⟩ := hports
  unfold step at h
  split at h
  · cases h
    exact s.keepsQueues_tick.queuesAgree hs
  next c rest _ =>
    have hqueue : s.KeepsQueues { s with pending := rest } := ⟨rfl, rfl, rfl, rfl, rfl, id⟩
    exact State.queuesAgree_exec (hqueue.queuesAgree hs) henable.2 h

end Sys2Proof.Machine

/-! ## The end of a session, and the loss of the lower link -/

namespace Sys2Proof.Machine

/-! ### Power-up reset -/

/-- Settles O4: each block is read off the one state of reset. -/
theorem powerUpResetGivesPowerUpValues : Obligations.PowerUpResetGivesPowerUpValues := by
  intro s
  have hport : ∀ p, ({ State.reset with pending := s.pending } : State).port p = .resetUpper ∨
      ({ State.reset with pending := s.pending } : State).port p = .resetLower := by
    intro p
    cases p
    · exact .inl rfl
    · exact .inr rfl
  have htap : ∀ k, ({ State.reset with pending := s.pending } : State).tap k = .atReset := by
    intro k
    simp [State.tap, State.reset]
  refine ⟨_, rfl, rfl, rfl, rfl, rfl, rfl, rfl, rfl, fun p => ?_, rfl, rfl, rfl, rfl, rfl, rfl, rfl, fun i => ?_,
    fun i => ?_, rfl, rfl, rfl, fun k => ?_, fun n => ?_, rfl, rfl, rfl, rfl, rfl, fun k => ?_, rfl, rfl, rfl, rfl,
    rfl, rfl⟩
  · obtain h | h := hport p <;> rw [h] <;> exact ⟨rfl, rfl, rfl, rfl, rfl, rfl, rfl, rfl⟩
  · exact RecordTable.trans_empty i
  · simp [State.mgmtAt, State.reset, RecordTable.empty]
  · rw [htap]
    exact ⟨rfl, rfl, rfl, rfl, rfl, rfl, rfl, rfl, rfl, rfl, rfl, rfl, rfl, rfl⟩
  · simp [State.watch, State.reset, Watch.atReset]
  · simp [State.reset, Params.atReset]

/-! ### What an upper link loss leaves of the records (R63 to R65) -/

theorem transAtUpperLoss_eq (o : Option TransRecord) : transAtUpperLoss o = o.bind fun r =>
    if r.state = .issued then some { r with orphan := true } else none := by
  cases o with
  | none => rfl
  | some r => by_cases h : r.state = .issued <;> simp [transAtUpperLoss, TransRecord.lostAtUpperLoss, h]

theorem mgmtAtUpperLoss_eq (o : Option MgmtRecord) : mgmtAtUpperLoss o = o.bind fun r =>
    if r.state = .executing then some { r with orphan := true } else none := by
  cases o <;> rfl

/-- A management record outlives an upper link loss exactly if it is EXECUTING, and is an orphan then (R65). -/
theorem mgmtAtUpperLoss_eq_some_iff {o : Option MgmtRecord} {x : MgmtRecord} : mgmtAtUpperLoss o = some x ↔
    ∃ r, o = some r ∧ r.state = .executing ∧ x = { r with orphan := true } := by
  rw [mgmtAtUpperLoss_eq, Option.bind_eq_some_iff]
  refine exists_congr fun r => and_congr_right fun _ => ?_
  by_cases h : r.state = .executing <;> simp [h, eq_comm]

theorem State.transAt_endSession (s : State) (i : Fin 16) :
    s.endSession.transAt i = transAtUpperLoss (s.transAt i) := by
  simp [State.transAt, State.endSession, RecordTable.atUpperLoss]

theorem State.mgmtAt_endSession (s : State) (i : Fin 3) : s.endSession.mgmtAt i = mgmtAtUpperLoss (s.mgmtAt i) := by
  simp [State.mgmtAt, State.endSession, RecordTable.atUpperLoss]

theorem State.mgmtQueue_endSession (s : State) :
    s.endSession.records.mgmtQueue = s.records.mgmtQueue.filter fun i => (s.endSession.mgmtAt i).isSome := by
  simp only [s.mgmtAt_endSession]
  rfl

/-- Of the management records an upper link loss leaves the EXECUTING one, alone in its queue (R65). -/
theorem State.mgmtPlaced_endSession {s : State} (hs : s.MgmtPlaced) : s.endSession.MgmtPlaced := by
  obtain ⟨hnodup, -, hqueue, -, hrecord⟩ := hs
  have hleft : ∀ {i x}, s.endSession.mgmtAt i = some x →
      ∃ r, s.mgmtAt i = some r ∧ r.state = .executing ∧ x = { r with orphan := true } := fun h =>
    mgmtAtUpperLoss_eq_some_iff.1 ((s.mgmtAt_endSession _).symm.trans h)
  refine ⟨?_, List.nodup_nil, fun i => ?_, fun i => ?_, fun i x hx => ?_⟩
  · rw [s.mgmtQueue_endSession]
    exact hnodup.filter _
  · rw [s.mgmtQueue_endSession, List.mem_filter, Option.isSome_iff_exists]
    constructor
    · rintro ⟨-, x, hx⟩
      obtain ⟨r, -, hexec, rfl⟩ := hleft hx
      exact ⟨_, hx, by simp [hexec]⟩
    · rintro ⟨x, hx, -⟩
      obtain ⟨r, hr, hexec, -⟩ := hleft hx
      exact ⟨(hqueue i).2 ⟨r, hr, by simp [hexec]⟩, x, hx⟩
  · refine iff_of_false List.not_mem_nil ?_
    rintro ⟨x, hx, hanswered⟩
    obtain ⟨r, -, hexec, rfl⟩ := hleft hx
    simp [hexec] at hanswered
  · obtain ⟨r, hr, hexec, rfl⟩ := hleft hx
    obtain ⟨hhead, -, hanswer⟩ := hrecord i r hr
    obtain ⟨rest, hq⟩ := List.head?_eq_some_iff.1 (hhead hexec)
    refine ⟨fun _ => ?_, fun _ => hexec, hanswer⟩
    rw [s.mgmtQueue_endSession, hq, List.filter_cons_of_pos (by simp [hx])]
    rfl

theorem Attention.atUpperLoss_eq (a : Attention) : a.atUpperLoss = { a with
    newList := none, timer := none, packet := none, flagsAnnounced := 0
    sequence := if a.newList.isSome then a.sequence + 1 else a.sequence } := by
  cases h : a.newList <;> simp [Attention.atUpperLoss, Attention.quiet, h]

/-- The expiry of the silence timer of a port in UP is a link loss (R175). -/
theorem State.exec_silenceTimeout {s : State} {p : PortId} (hlow : s.resetLow = false) (hup : (s.port p).state = .up)
    (hsilence : (s.port p).silence = some 0) : exec (.silenceTimeout p) s = .next (s.loseLink p) := by
  have hexec : exec (.silenceTimeout p) s
      = s.taken (if (s.port p).state = .up ∧ Timer.due (s.port p).silence then s.loseLink p else s) := rfl
  rw [hexec, State.taken_of_released hlow, if_pos ⟨hup, (Timer.due_iff _).2 hsilence⟩]

/-- Settles O15: with no reset pending the loss is `State.endSession`, which is read off block by block. -/
theorem upperLinkLossEndsTheSession : Obligations.UpperLinkLossEndsTheSession := by
  intro s hlow hup hsilence hpending hrefs _ hmgmt
  have hlost : s.loseLink .upper = s.endSession := if_neg (by simp [hpending])
  rw [State.exec_silenceTimeout (p := .upper) hlow hup hsilence, hlost]
  refine ⟨_, rfl, rfl, rfl, rfl, rfl, rfl, rfl, fun hl hroom => ?_, fun hl => ?_, fun i => ?_,
    s.follows_endSession.refs hrefs, fun b => ?_, rfl, fun i => ?_, State.mgmtPlaced_endSession hmgmt, rfl, rfl,
    fun k => ?_, ?_, rfl, rfl, rfl, rfl, hlow⟩
  · exact Port.owe_of_room _ _ hl hroom
  · exact Port.owe_of_not_up hl _
  · rw [s.transAt_endSession, transAtUpperLoss_eq]
  · rw [s.bank_endSession]
  · rw [s.mgmtAt_endSession, mgmtAtUpperLoss_eq]
  · rw [s.tap_endSession]
    rfl
  · exact s.attention.atUpperLoss_eq

/-! ### The drain that a lower link loss sets off (R42, R43, R177) -/

/-- The drain, by the packets that move (R43, R141). -/
theorem State.drain_eq {s : State} {moves : List QueuedPass} (h : s.drainMoves = moves) :
    s.drain = { s with
      lowerTx := s.lowerTx.drop moves.length
      classifier := { s.classifier with
        refusals := s.classifier.refusals ++ moves.map fun q => q.packet.refusal .noRoute }
      mgmt := { s.mgmt with refusals := addCount s.mgmt.refusals moves.length } } := by
  subst h
  simp [State.drain, State.enterRefusals]

/-- With nothing but drain packets in the lower transmit queue, those that move are the first (R43). -/
theorem State.drainMoves_of_all {s : State} (h : ∀ q ∈ s.lowerTx, q.drain = true) :
    s.drainMoves = s.lowerTx.take (8 - s.classifier.refusals.length) := by
  rw [State.drainMoves, List.takeWhile_eq_self_iff.2 h]
  rfl

/-- A held decision stays held while the queue it waits for is full (R40, R41). -/
theorem State.endStall_of_full {s : State} (hlower : ∀ p, s.classifier.stall = .onLower p → s.lowerTx.length = 8)
    (hfull : ∀ r, s.classifier.stall = .onRefusal r → s.classifier.refusals.length = 8) : s.endStall = s := by
  unfold State.endStall
  split
  · rfl
  next p hstall => exact if_neg fun h => absurd (hlower p hstall) (Nat.ne_of_lt h)
  next r hstall =>
    have hlen := hfull r hstall
    exact if_neg fun h => absurd hlen (Nat.ne_of_lt (State.canRefuse_iff.1 h).1)

/-- A lower link loss before what follows it: the port lost, the buffer emptied, the queue marked, a held pass refused
(R42, R43, R175). -/
def State.lowerLost (s : State) (next : Port → Port) : State :=
  { s with
    lower := next s.lower.countRetrain
    lowerRx := []
    lowerTx := s.lowerTx.map fun q => { q with drain := true }
    classifier := { s.classifier with stall := s.classifier.stall.atLowerLoss } }

theorem State.loseLower_eq (s : State) (next : Port → Port) :
    s.loseLower next = (s.lowerLost next).settle.raiseFlag lowerLinkFlag := rfl

/-- The drain takes as many packets as the refusal queue has room for, from the whole of the lower transmit queue
(R43, R177). -/
theorem State.drain_lowerLost (s : State) (next : Port → Port) :
    (s.lowerLost next).drain = { s.lowerLost next with
      lowerTx := (s.lowerTx.drop (8 - s.classifier.refusals.length)).map fun q => { q with drain := true }
      classifier := {
        stall := s.classifier.stall.atLowerLoss, paused := s.classifier.paused
        refusals := s.classifier.refusals ++
          (s.lowerTx.take (8 - s.classifier.refusals.length)).map fun q => q.packet.refusal .noRoute }
      mgmt := { s.mgmt with
        refusals := addCount s.mgmt.refusals (min s.lowerTx.length (8 - s.classifier.refusals.length)) } } := by
  have hmoves : (s.lowerLost next).drainMoves
      = (s.lowerTx.take (8 - s.classifier.refusals.length)).map fun q => { q with drain := true } := by
    rw [State.drainMoves_of_all (by simp [State.lowerLost]), List.map_take]
    rfl
  rw [State.drain_eq hmoves]
  simp only [List.map_map, List.length_map, List.length_take, State.lowerLost, ← List.map_drop,
    ← List.drop_eq_drop_min, Nat.min_comm s.lowerTx.length]
  rfl

/-- What a lower link loss comes to: the drain, and LOWER_LINK set; a held pass waits as a refusal (R42, R177). -/
theorem State.loseLower_drains {s : State} (hs : s.QueuesAgree) (next : Port → Port) :
    s.loseLower next = (s.lowerLost next).drain.raiseFlag lowerLinkFlag := by
  obtain ⟨hfit, hsettled⟩ := State.queuesAgree_iff.1 hs
  have hlen := hfit.refusals
  rw [s.loseLower_eq, State.settle, State.endStall_of_full]
  · exact fun p hp => absurd hp (Stall.atLowerLoss_ne_onLower _ p)
  · intro r hr
    rw [s.drain_lowerLost] at hr ⊢
    simp only [List.length_append, List.length_map, List.length_take]
    cases hstall : s.classifier.stall with
    | none => simp [hstall, Stall.atLowerLoss] at hr
    | onLower p =>
      have := (hsettled.onLower p hstall).1
      omega
    | onRefusal r =>
      have := hsettled.onRefusal r hstall
      omega

/-- Settles O17: the loss is a drain of the whole lower transmit queue (`State.loseLower_drains`), and its flag changes
the attention unit alone. -/
theorem lowerLinkLossDrains : Obligations.LowerLinkLossDrains := by
  intro s hlow hup hsilence hs
  have hlost : s.loseLink .lower = (s.lowerLost Port.enterTraining).drain.raiseFlag lowerLinkFlag :=
    State.loseLower_drains hs _
  have hflag : s.FlagRaised ((s.lowerLost Port.enterTraining).drain.raiseFlag lowerLinkFlag) lowerLinkFlag :=
    State.flagRaised_raiseFlag (s.lowerLost Port.enterTraining).drain lowerLinkFlag
  rw [State.exec_silenceTimeout (p := .lower) hlow hup hsilence, hlost]
  refine ⟨_, rfl, ?_⟩
  obtain ⟨a, ha⟩ := (s.lowerLost Port.enterTraining).drain.raiseFlag_changes lowerLinkFlag
  rw [ha] at hflag ⊢
  rw [s.drain_lowerLost] at hflag ⊢
  exact ⟨rfl, rfl, rfl, rfl, rfl, rfl, hflag, rfl, rfl, rfl, rfl, rfl, rfl, rfl, rfl, rfl, rfl, hlow⟩

end Sys2Proof.Machine

/-! ## The transmitters -/

namespace Sys2Proof.Machine

/-! ### What a freed slot takes -/

theorem State.maySend_port {s : State} {p : PortId} (h : s.MaySend p) : (s.port p).maySend = true := by
  obtain ⟨-, hup, hcredit, howed⟩ := h
  simp [Port.maySend, hup, hcredit, howed]

/-- Nothing drains while no drain packet stands in the queue (R43). -/
theorem State.drain_of_none {s : State} (h : ∀ q ∈ s.lowerTx, q.drain = false) : s.drain = s := by
  have hmoves : s.drainMoves = [] := by
    have htake : s.lowerTx.takeWhile (fun q => q.drain) = [] := by
      cases hq : s.lowerTx with
      | nil => rfl
      | cons q rest => simp [h q (by simp [hq])]
    rw [State.drainMoves, htake, List.take_nil]
  rw [State.drain_eq hmoves]
  simp [addCount_zero]

/-- The drain packet `q` has left the lower transmit queue, with `rest` behind it, as a NO_ROUTE refusal (R43, R141). -/
def State.drainedOne (s : State) (q : QueuedPass) (rest : List QueuedPass) : State :=
  { s with
    lowerTx := rest
    classifier := { s.classifier with refusals := s.classifier.refusals ++ [q.packet.refusal .noRoute] }
    mgmt := { s.mgmt with refusals := bump s.mgmt.refusals } }

/-- The one slot that is free takes the oldest drain packet (R43). -/
theorem State.drain_of_one {s : State} {q : QueuedPass} {rest : List QueuedPass} (hq : s.lowerTx = q :: rest)
    (hdrain : q.drain = true) (hroom : s.classifier.refusals.length = 7) : s.drain = s.drainedOne q rest := by
  have hmoves : s.drainMoves = [q] := by
    simp [State.drainMoves, queueCapacity, hq, hdrain, hroom]
  rw [State.drain_eq hmoves, hq]
  rfl

/-- A held pass enters the lower transmit queue that has room (R40). -/
theorem State.endStall_onLower {s : State} {p : Down} (hup : s.upper.state = .up)
    (hstall : s.classifier.stall = .onLower p) (hroom : s.lowerTx.length < 8) :
    ∃ o d, s.upper.Owes o d ∧ s.endStall = { s with
      lowerTx := s.lowerTx ++ [{ packet := p.descended, drain := false }]
      classifier := { s.classifier with stall := .none }
      upperRx := s.upperRx.tail, upper := { s.upper with owed := o, draws := d } } := by
  obtain ⟨o, d, howes, hport⟩ := s.upper.owe_one_owes
  have hcap : s.lowerTx.length < queueCapacity := hroom
  refine ⟨o, d, howes, ?_⟩
  simp only [State.endStall, hstall, if_pos hcap, State.disposeHead, State.enterLower]
  rw [hport s.upper hup rfl rfl]

/-- A held refusal enters the refusal queue that can take it (R41). -/
theorem State.endStall_onRefusal {s : State} {r : Refused} (hup : s.upper.state = .up)
    (hstall : s.classifier.stall = .onRefusal r) (hroom : s.canRefuse = true) :
    ∃ o d, s.upper.Owes o d ∧ s.endStall = { s with
      classifier := { s.classifier with stall := .none, refusals := s.classifier.refusals ++ [r] }
      mgmt := { s.mgmt with refusals := bump s.mgmt.refusals }
      upperRx := s.upperRx.tail, upper := { s.upper with owed := o, draws := d } } := by
  obtain ⟨o, d, howes, hport⟩ := s.upper.owe_one_owes
  refine ⟨o, d, howes, ?_⟩
  simp only [State.endStall, hstall, if_pos hroom, State.disposeHead, State.enterRefusals]
  rw [hport s.upper hup rfl rfl]
  rfl

/-! ### The lower transmitter (R180) -/

/-- Behind a packet that is no drain packet none stands (R43). -/
theorem State.no_drain_of_head {s : State} (hs : s.QueuesAgree) {q : QueuedPass} {rest : List QueuedPass}
    (hq : s.lowerTx = q :: rest) (hdrain : q.drain = false) : ∀ x ∈ rest, x.drain = false := by
  have horder := (State.queuesAgree_iff.1 hs).1.order
  rw [hq] at horder
  intro x hx
  simpa [hdrain] using (List.pairwise_cons.1 horder).1 x hx

theorem State.exec_lowerSend {s : State} {q : QueuedPass} {rest : List QueuedPass} (h : s.MaySend .lower)
    (hq : s.lowerTx = q :: rest) : exec .lowerSend s = .next (if q.drain then s else
      ({ s with lowerTx := rest, lower := s.lower.transmit (.down q.packet) } : State).settle) := by
  have hexec : exec .lowerSend s = execLowerSend s := rfl
  have hsend : s.lower.maySend = true := State.maySend_port h
  rw [hexec, execLowerSend, State.taken_of_released h.1, hq]
  cases hdrain : q.drain <;> simp [hsend, hdrain]

/-- Settles O18: the slot that the head leaves is free to a held pass, and nothing drains behind a head that is sent. -/
theorem lowerSendTakesTheHead : Obligations.LowerSendTakesTheHead := by
  intro s q rest h hs hq
  obtain ⟨hfit, hsettled⟩ := State.queuesAgree_iff.1 hs
  rw [State.exec_lowerSend h hq]
  refine ⟨fun hdrain => by rw [if_pos hdrain], fun hdrain hstall => ?_, fun hdrain p hstall hup => ?_⟩
  all_goals
    rw [if_neg (by simp [hdrain]), State.settle, State.drain_of_none (State.no_drain_of_head hs hq hdrain)]
  · exact congrArg _ (State.endStall_of_full (fun p hp => absurd hp (hstall p)) hsettled.onRefusal)
  · have hlen := (hsettled.onLower p hstall).1
    rw [hq, List.length_cons] at hlen
    have hroom : rest.length < 8 := by omega
    obtain ⟨o, d, howes, hend⟩ := State.endStall_onLower
      (s := { s with lowerTx := rest, lower := s.lower.transmit (.down q.packet) }) hup hstall hroom
    exact ⟨o, d, howes, congrArg _ hend⟩

/-! ### The upper transmitter's refusals and relays (R181, R182) -/

theorem State.exec_arbiterSend {s : State} (h : s.MaySend .upper) : exec .arbiterSend s = .next s.arbitrate := by
  have hexec : exec .arbiterSend s = s.taken (if s.upper.maySend then s.arbitrate else s) := rfl
  have hsend : s.upper.maySend = true := State.maySend_port h
  rw [hexec, State.taken_of_released h.1, if_pos hsend]

/-- The refusal at the head has been sent, and its slot is free (R38, R182). -/
def State.refusalSent (s : State) (x : Refused) (rest : List Refused) : State :=
  { s.transmitUp x.packet with pointer := .lowerRx, classifier := { s.classifier with refusals := rest } }

theorem State.arbitrate_refusals {s : State} {x : Refused} {rest : List Refused} (hpacket : s.attention.packet = none)
    (hchosen : s.chosen? = some .refusals) (hrefusals : s.classifier.refusals = x :: rest) :
    s.arbitrate = (s.refusalSent x rest).settle := by
  simp only [State.arbitrate, hpacket, hchosen, State.sendRefusal, hrefusals]
  rfl

theorem State.arbitrate_lowerRx {s : State} {u : Up} {rest : List Up} (hpacket : s.attention.packet = none)
    (hchosen : s.chosen? = some .lowerRx) (hrx : s.lowerRx = u :: rest) :
    s.arbitrate = { s.transmitUp u.relayed with
      pointer := .mgmtResponses, lowerRx := rest, lower := s.lower.owe 1 } := by
  simp only [State.arbitrate, hpacket, hchosen, State.sendRelay, hrx]
  rfl

/-- A full refusal queue that has sent its head is one short of full. -/
theorem length_rest_of_full {x : Refused} {rest l : List Refused} (h : l = x :: rest) (hfull : l.length = 8) :
    rest.length = 7 := by
  simpa [h] using hfull

/-- Settles O22: the slot that a refusal leaves is taken by the drain first and by a held decision then. -/
theorem arbiterSendsRefusalsAndRelays : Obligations.ArbiterSendsRefusalsAndRelays := by
  intro s h hpacket hs
  obtain ⟨hfit, hsettled⟩ := State.queuesAgree_iff.1 hs
  have hup : s.upper.state = .up := h.2.1
  rw [State.exec_arbiterSend h]
  refine ⟨fun x rest hchosen hrefusals => ?_, fun u rest hchosen hrx hdepth hlower => ?_⟩
  · rw [State.arbitrate_refusals hpacket hchosen hrefusals, State.settle]
    dsimp only
    refine ⟨fun hnone hstall => ?_, fun hnone r hstall => ?_, fun q qs hq hdrain hstall => ?_,
      fun q qs p hq hdrain hstall => ?_⟩
    · have hclear : ∀ q ∈ s.lowerTx, q.drain = false := by simpa using hnone
      rw [State.drain_of_none (s := s.refusalSent x rest) hclear]
      exact congrArg _ (State.endStall_of_full (fun p hp => (hsettled.onLower p hp).1)
        fun r hr => absurd hr (hstall r))
    · have hclear : ∀ q ∈ s.lowerTx, q.drain = false := by simpa using hnone
      have hlen := length_rest_of_full hrefusals (hsettled.onRefusal r hstall)
      have hroom : (s.refusalSent x rest).canRefuse = true :=
        State.canRefuse_iff.2 ⟨Nat.lt_of_le_of_lt hlen.le (by decide), fun ⟨q, hq, hd⟩ => by simp [hclear q hq] at hd⟩
      obtain ⟨o, d, howes, hend⟩ := State.endStall_onRefusal (s := s.refusalSent x rest) hup hstall hroom
      rw [State.drain_of_none (s := s.refusalSent x rest) hclear]
      exact ⟨o, d, howes, congrArg _ hend⟩
    · have hlen := length_rest_of_full hrefusals (hsettled.drained ⟨q, by simp [hq], hdrain⟩)
      rw [State.drain_of_one (s := s.refusalSent x rest) hq hdrain hlen]
      refine congrArg _ (State.endStall_of_full (fun p hp => absurd hp (hstall p)) fun _ _ => ?_)
      exact List.length_append.trans (congrArg (· + 1) hlen)
    · have hlen := length_rest_of_full hrefusals (hsettled.drained ⟨q, by simp [hq], hdrain⟩)
      have hqs : qs.length < 8 := by
        have := (hsettled.onLower p hstall).1
        rw [hq, List.length_cons] at this
        omega
      rw [State.drain_of_one (s := s.refusalSent x rest) hq hdrain hlen]
      obtain ⟨o, d, howes, hend⟩ :=
        State.endStall_onLower (s := (s.refusalSent x rest).drainedOne q qs) hup hstall hqs
      exact ⟨o, d, howes, congrArg _ hend⟩
  · obtain ⟨o, d, howes, hport⟩ := s.lower.owe_one_owes
    refine ⟨o, d, howes, ?_⟩
    rw [State.arbitrate_lowerRx hpacket hchosen hrx, hport s.lower hlower rfl rfl]
    cases u <;> rfl

end Sys2Proof.Machine

/-! ## Claims and management packets that are kept -/

namespace Sys2Proof.Machine

/-! ### Management packets (R30) -/

theorem State.freeMgmt?_eq_none_iff {s : State} : s.freeMgmt? = none ↔ ∀ j, s.mgmtAt j ≠ none := by
  rw [State.freeMgmt?, find?_finRange_eq_none]
  simp [Option.isSome_iff_ne_none]

theorem State.freeMgmt?_eq_some_iff {s : State} {i : Fin 3} :
    s.freeMgmt? = some i ↔ s.mgmtAt i = none ∧ ∀ j < i, s.mgmtAt j ≠ none := by
  rw [State.freeMgmt?, find?_finRange_eq_some]
  simp [Option.isSome_iff_ne_none]

theorem State.classifyMgmt_refused {s : State} {m : MgmtPacket} {code : Code} (hhop : m.hop = 0)
    (h : (s.tagInUse m.tag = true ∧ code = .tagInUse) ∨
      (s.tagInUse m.tag = false ∧ (∀ j, s.mgmtAt j ≠ none) ∧ code = .mgmtBusy)) :
    s.classifyMgmt m = s.refuseHead ((Down.mgmt m).refusal code) := by
  rw [State.classifyMgmt, if_neg (by simp [hhop])]
  obtain ⟨htag, rfl⟩ | ⟨htag, hbusy, rfl⟩ := h
  · rw [if_pos htag]
  · rw [if_neg (by simp [htag]), State.freeMgmt?_eq_none_iff.2 hbusy]

theorem State.classifyMgmt_kept {s : State} {m : MgmtPacket} {i : Fin 3} (hhop : m.hop = 0)
    (htag : s.tagInUse m.tag = false) (hfree : s.mgmtAt i = none) (hlowest : ∀ j < i, s.mgmtAt j ≠ none) :
    s.classifyMgmt m = s.keepMgmt i m := by
  rw [State.classifyMgmt, if_neg (by simp [hhop]), if_neg (by simp [htag]),
    State.freeMgmt?_eq_some_iff.2 ⟨hfree, hlowest⟩]

/-- Settles O27. -/
theorem mgmtPacketIsKeptOrRefused : Obligations.MgmtPacketIsKeptOrRefused := by
  intro s m rest hlow hup hp hs hrx hhop
  rw [State.exec_classifyPacket hlow, State.classify_mgmt hp hs hrx]
  refine ⟨fun code hcode => ?_, fun i htag hfree hlowest => ?_⟩
  · rw [State.classifyMgmt_refused hhop hcode]
    refine ⟨fun hroom => ?_, fun hfull => ?_⟩
    · obtain ⟨o, d, howes, h⟩ := State.refuseHead_room hup hrx hroom ((Down.mgmt m).refusal code)
      exact ⟨o, d, howes, congrArg _ h⟩
    · exact congrArg _ (State.refuseHead_full hfull _)
  · obtain ⟨o, d, howes, hdispose⟩ := State.disposeHead_of_up hup hrx
    refine ⟨o, d, howes, ?_⟩
    rw [State.classifyMgmt_kept hhop htag hfree hlowest, State.keepMgmt, hdispose]
    all_goals rfl

/-! ### Claims (R37, R99, R100) -/

theorem State.freeTrans?_eq_some_iff {s : State} {i : Fin 16} :
    s.freeTrans? = some i ↔ s.transAt i = none ∧ ∀ j < i, s.transAt j ≠ none := by
  rw [State.freeTrans?, find?_finRange_eq_some]
  simp [Option.isSome_iff_ne_none]

/-- A claim that passes the checks is kept in the lowest FREE record (R37). -/
theorem State.claimHead_kept {s : State} {b : BankId} {e : Fin 32} {w : Window} {q : Request} {i : Fin 16}
    (hcheck : s.claimCheck w q = none) (hfree : s.freeTrans? = some i) :
    s.claimHead b e w q = s.allocate i (s.newRecord b e w q) := by
  rw [State.claimHead, hcheck, hfree]

theorem State.marks_eq (s : State) (r : TransRecord) :
    s.marks r = (((s.watch 0).sees r && (s.watch 0).hold) || ((s.watch 1).sees r && (s.watch 1).hold)) := by
  have hlist : s.watches.toList = [s.watch 0, s.watch 1] := by
    apply List.ext_getElem
    · simp
    · intro n h1 h2
      match n, h2 with
      | 0, _ => rfl
      | 1, _ => rfl
  rw [State.marks, hlist]
  simp [Bool.and_comm]

/-- What the keeping of a claim writes, block by block (R37, R100). -/
theorem State.allocate_eq {s : State} {p : Down} {rest : List Down} (hup : s.upper.state = .up)
    (hrx : s.upperRx = p :: rest) : ∃ o d, s.upper.Owes o d ∧ ∀ i r, s.allocate i r = { s with
      records := { s.records with trans := s.records.trans.set i (some { r with hold := s.marks r }) }
      windows := s.windows.setBank r.bank { s.bank r.bank with refs := (s.bank r.bank).refs + 1 }
      taps := s.taps.set r.tap { s.tap r.tap with queue := (s.tap r.tap).queue ++ [i] }
      watches := s.watches.map (Watch.evaluated r)
      upperRx := rest, upper := { s.upper with owed := o, draws := d } } := by
  obtain ⟨o, d, howes, hdispose⟩ := State.disposeHead_of_up hup hrx
  refine ⟨o, d, howes, fun i r => ?_⟩
  rw [State.allocate, hdispose]
  all_goals rfl

theorem Windows.setBank_setBank (w : Windows) (b : BankId) (x y : Bank) :
    (w.setBank b x).setBank b y = w.setBank b y := by
  cases b <;> rfl

/-- A bank of an entry hit by a claim that is kept: one hit and one reference more (R5, R9). -/
theorem State.windows_hit_refs (s : State) (b : BankId) (e : Fin 32) :
    (s.modBank b fun x => x.countHit e).windows.setBank b { (s.modBank b fun x => x.countHit e).bank b with
      refs := ((s.modBank b fun x => x.countHit e).bank b).refs + 1 }
      = s.windows.setBank b { (s.bank b).countHit e with refs := (s.bank b).refs + 1 } := by
  rw [State.bank_modBank_self, State.modBank, Windows.setBank_setBank]
  rfl

/-- A claim that passes each of the eight checks (R33 to R36). -/
theorem State.claimCheck_eq_none {s : State} {w : Window} {q : Request} {k : Fin 4} {i : Fin 16} (hk : w.tap = some k)
    (hpermits : w.permits q.kind = true) (hlength : q.length ≤ w.maxLength.getD 16)
    (hfits : q.address.toNat + q.length - 1 < w.base.toNat + 2 ^ w.sizeExponent)
    (hstate : (s.tap k).state = .idle ∨ (s.tap k).state = .retryWait ∨ (s.tap k).state = .held ∨
      ((s.tap k).state = .issued ∧ (s.tap k).disablePending = false))
    (htag : s.tagInUse q.tag = false) (hqueue : (s.tap k).queue.length < 6) (hfree : s.freeTrans? = some i) :
    s.claimCheck w q = none := by
  have htap : w.claimTap = k := by simp [Window.claimTap, hk]
  have henabled : ¬ ((s.tap k).state = .disabled ∨ ((s.tap k).state = .issued ∧ (s.tap k).disablePending = true)) := by
    obtain h | h | h | ⟨h, hd⟩ := hstate <;> simp [*]
  have hworking : ¬ (s.tap k).state = .faulted := by
    obtain h | h | h | ⟨h, -⟩ := hstate <;> simp [h]
  rw [State.claimCheck, htap]
  simp only [hpermits, htag, hfree, Bool.not_true, Bool.false_eq_true, Option.isNone_some, if_false, if_neg henabled,
    if_neg hworking, if_neg (Nat.not_lt.2 hlength), if_neg (Nat.not_le.2 hqueue)]
  exact if_neg (Nat.not_le.2 hfits)

/-- The record that a claim of tap k fills (R37). -/
def State.claimRecord (s : State) (b : BankId) (e : Fin 32) (w : Window) (q : Request) (k : Fin 4) : TransRecord :=
  { s.newRecord b e w q with tap := k }

theorem State.newRecord_eq (s : State) (b : BankId) (e : Fin 32) {w : Window} (q : Request) {k : Fin 4}
    (hk : w.tap = some k) : s.newRecord b e w q = s.claimRecord b e w q k := by
  have htap : w.claimTap = k := by simp [Window.claimTap, hk]
  rw [State.claimRecord, State.newRecord, htap]

/-- The tap of a watch is ANY or the record's, in the terms of the statements (R98, R99). -/
theorem Watch.sees_iff (x : Watch) (r : TransRecord) : x.sees r =
      (x.armed && decide (x.low.toNat ≤ r.address.toNat ∧ r.address.toNat ≤ x.high.toNat)
        && (match r.kind with | .read => x.reads | .write => x.writes) && (x.tap == none || x.tap == some r.tap)) := by
  rw [Watch.sees]
  cases x.tap <;> rfl

/-- Settles O26: the claim passes the checks, and `State.allocate` is read off with the record it fills. -/
theorem claimFillsTheLowestFreeRecord : Obligations.ClaimFillsTheLowestFreeRecord := by
  intro s q rest b e w k i hlow hup hp hs hrx hsel hm hw ha hk hpermits hlength hfits hstate htag hqueue hfree hlowest
    matched
  have hlowestFree : s.freeTrans? = some i := State.freeTrans?_eq_some_iff.2 ⟨hfree, hlowest⟩
  have hcheck : (s.modBank b fun x => x.countHit e).claimCheck w q = none :=
    State.claimCheck_eq_none (s := s.modBank b fun x => x.countHit e) hk hpermits hlength hfits hstate htag hqueue
      hlowestFree
  have hmatched : ∀ n, (s.watch n).sees (s.claimRecord b e w q k) = matched n := fun n => Watch.sees_iff _ _
  have hmarks : (s.modBank b fun x => x.countHit e).marks (s.claimRecord b e w q k)
      = ((matched 0 && (s.watch 0).hold) || (matched 1 && (s.watch 1).hold)) := by
    rw [← hmatched, ← hmatched]
    exact s.marks_eq _
  obtain ⟨o, d, howes, hkept⟩ := State.allocate_eq (s := s.modBank b fun x => x.countHit e) hup hrx
  have hexec : exec .classifyPacket s
      = .next ((s.modBank b fun x => x.countHit e).allocate i (s.claimRecord b e w q k)) := by
    rw [State.exec_classifyPacket hlow, State.classify_request hp hs hrx,
      (State.classifyRequest_match hsel hm hw).2.2 ha, State.claimHead_kept hcheck hlowestFree,
      State.newRecord_eq _ _ _ _ hk]
    rfl
  refine ⟨_, o, d, howes, hexec, ?_, fun n => ?_⟩
  · rw [hkept, hmarks, ← s.windows_hit_refs b e]
    rfl
  · rw [hkept, ← hmatched]
    exact Vector.getElem_map (Watch.evaluated (s.claimRecord b e w q k)) n.isLt

end Sys2Proof.Machine

/-! ## Tags and management records under events

Two invariants that hold between any two of the shared operations of an event: allocated records hold different tags,
and each management record stands in the one queue its state names. `State.KeepsLedger` says of one operation that it
keeps both. -/

namespace Sys2Proof.Machine

/-- From `s` to `t` different tags stay different, and management records that stood in their queues stand in them. -/
structure State.KeepsLedger (s t : State) : Prop where
  tags : s.TagsDiffer → t.TagsDiffer
  mgmt : s.MgmtPlaced → t.MgmtPlaced

theorem State.KeepsLedger.refl (s : State) : s.KeepsLedger s := ⟨id, id⟩

theorem State.KeepsLedger.trans {s t u : State} (h : s.KeepsLedger t) (h' : t.KeepsLedger u) : s.KeepsLedger u :=
  ⟨h'.tags ∘ h.tags, h'.mgmt ∘ h.mgmt⟩

/-! ### Tags (R56) -/

/-- Records that have their tags from the records of their places hold different tags if those did. -/
theorem State.TagsDiffer.of_from {s t : State} (hs : s.TagsDiffer)
    (htrans : ∀ i r, t.transAt i = some r → ∃ q, s.transAt i = some q ∧ q.tag = r.tag)
    (hmgmt : ∀ i r, t.mgmtAt i = some r → ∃ q, s.mgmtAt i = some q ∧ q.tag = r.tag) : t.TagsDiffer := by
  obtain ⟨htt, hmm, htm⟩ := hs
  refine ⟨fun i j r q hr hq he => ?_, fun i j r q hr hq he => ?_, fun i j r q hr hq => ?_⟩
  · obtain ⟨r', hr', er⟩ := htrans i r hr
    obtain ⟨q', hq', eq⟩ := htrans j q hq
    exact htt i j r' q' hr' hq' (by rw [er, eq, he])
  · obtain ⟨r', hr', er⟩ := hmgmt i r hr
    obtain ⟨q', hq', eq⟩ := hmgmt j q hq
    exact hmm i j r' q' hr' hq' (by rw [er, eq, he])
  · obtain ⟨r', hr', er⟩ := htrans i r hr
    obtain ⟨q', hq', eq⟩ := hmgmt j q hq
    rw [← er, ← eq]
    exact htm i j r' q' hr' hq'

/-- A change of one management record that frees it or leaves its tag. -/
theorem State.TagsDiffer.of_mgmt {s t : State} {i : Fin 3} (hs : s.TagsDiffer)
    (htrans : t.records.trans = s.records.trans) (hne : ∀ j, j ≠ i → t.mgmtAt j = s.mgmtAt j)
    (hi : ∀ q, t.mgmtAt i = some q → ∃ r, s.mgmtAt i = some r ∧ r.tag = q.tag) : t.TagsDiffer := by
  refine hs.of_from (fun j q hq => ⟨q, by rwa [State.transAt, htrans] at hq, rfl⟩) fun j q hq => ?_
  by_cases hj : j = i
  · exact hj ▸ hi q (hj ▸ hq)
  · exact ⟨q, hne j hj ▸ hq, rfl⟩

theorem State.tagInUse_eq_false_iff {s : State} {tag : Tag} : s.tagInUse tag = false ↔
    (∀ i r, s.transAt i = some r → r.tag ≠ tag) ∧ ∀ i r, s.mgmtAt i = some r → r.tag ≠ tag := by
  have hany : ∀ {n : Nat} {α : Type} (v : Vector (Option α) n) (f : Option α → Bool),
      v.toList.any f = false ↔ ∀ i : Fin n, f v[i] = false := by
    intro n α v f
    rw [List.any_eq_false]
    constructor
    · exact fun h i => by simpa using h v[i] (by simp)
    · intro h o ho
      obtain ⟨j, hj, rfl⟩ := Vector.mem_iff_getElem.1 (Vector.mem_toList_iff.1 ho)
      simpa using h ⟨j, hj⟩
  rw [State.tagInUse, Bool.or_eq_false_iff, hany, hany]
  refine and_congr (forall_congr' fun i => ?_) (forall_congr' fun i => ?_)
  · change _ ↔ ∀ r, s.records.trans[i] = some r → _
    cases s.records.trans[i] <;> simp
  · change _ ↔ ∀ r, s.records.mgmt[i] = some r → _
    cases s.records.mgmt[i] <;> simp

/-- A new transaction record whose tag is not in use (R36, R56). -/
theorem State.tagsDiffer_setTrans {s : State} (hs : s.TagsDiffer) {r : TransRecord} (i : Fin 16)
    (hfree : s.tagInUse r.tag = false) : (s.setTrans i (some r)).TagsDiffer := by
  obtain ⟨htt, hmm, htm⟩ := hs
  obtain ⟨hnt, hnm⟩ := State.tagInUse_eq_false_iff.1 hfree
  have hat : ∀ j q, (s.setTrans i (some r)).transAt j = some q → (j = i ∧ q = r) ∨ s.transAt j = some q := by
    intro j q hq
    by_cases h : j = i
    · subst h
      exact .inl ⟨rfl, by simpa [eq_comm] using hq⟩
    · exact .inr (by rwa [s.transAt_setTrans_ne h] at hq)
  refine ⟨fun j k x y hx hy he => ?_, hmm, fun j k x y hx hy => ?_⟩
  · obtain ⟨rfl, rfl⟩ | hx' := hat j x hx <;> obtain ⟨rfl, rfl⟩ | hy' := hat k y hy
    · rfl
    · exact absurd he.symm (hnt k y hy')
    · exact absurd he (hnt j x hx')
    · exact htt j k x y hx' hy' he
  · obtain ⟨rfl, rfl⟩ | hx := hat j x hx
    · exact (hnm k y hy).symm
    · exact htm j k x y hx hy

/-- A new management record whose tag is not in use (R30, R56). -/
theorem State.tagsDiffer_setMgmt {s : State} (hs : s.TagsDiffer) {r : MgmtRecord} (i : Fin 3)
    (hfree : s.tagInUse r.tag = false) : (s.setMgmt i (some r)).TagsDiffer := by
  obtain ⟨htt, hmm, htm⟩ := hs
  obtain ⟨hnt, hnm⟩ := State.tagInUse_eq_false_iff.1 hfree
  have hat : ∀ j q, (s.setMgmt i (some r)).mgmtAt j = some q → (j = i ∧ q = r) ∨ s.mgmtAt j = some q := by
    intro j q hq
    by_cases h : j = i
    · subst h
      exact .inl ⟨rfl, by simpa [eq_comm] using hq⟩
    · exact .inr (by rwa [s.mgmtAt_setMgmt_ne h] at hq)
  refine ⟨htt, fun j k x y hx hy he => ?_, fun j k x y hx hy => ?_⟩
  · obtain ⟨rfl, rfl⟩ | hx' := hat j x hx <;> obtain ⟨rfl, rfl⟩ | hy' := hat k y hy
    · rfl
    · exact absurd he.symm (hnm k y hy')
    · exact absurd he (hnm j x hx')
    · exact hmm j k x y hx' hy' he
  · obtain ⟨rfl, rfl⟩ | hy := hat k y hy
    · exact hnt j x hx
    · exact htm j k x y hx hy

/-! ### Events on transaction records -/

/-- The management records and their queues are those of `s` (R52 to R55). -/
structure State.SameMgmt (s t : State) : Prop where
  mgmt : t.records.mgmt = s.records.mgmt
  queue : t.records.mgmtQueue = s.records.mgmtQueue
  responses : t.records.mgmtResponses = s.records.mgmtResponses

theorem State.SameMgmt.mgmtAt {s t : State} (h : s.SameMgmt t) (i : Fin 3) : t.mgmtAt i = s.mgmtAt i := by
  rw [State.mgmtAt, h.mgmt, State.mgmtAt]

theorem State.SameMgmt.mgmtPlaced {s t : State} (h : s.SameMgmt t) (hs : s.MgmtPlaced) : t.MgmtPlaced := by
  unfold State.MgmtPlaced
  simp only [h.mgmtAt, h.queue, h.responses]
  exact hs

/-- An event that leaves the management records, each transaction record with the tag of the record of its place. -/
theorem State.KeepsLedger.of_trans {s t : State} (hm : s.SameMgmt t)
    (htrans : ∀ i r, t.transAt i = some r → ∃ q, s.transAt i = some q ∧ q.tag = r.tag) : s.KeepsLedger t where
  tags hs := hs.of_from htrans fun i r hr => ⟨r, hm.mgmtAt i ▸ hr, rfl⟩
  mgmt := hm.mgmtPlaced

/-- An event that leaves the transaction records as well. -/
theorem State.KeepsLedger.of_same {s t : State} (htrans : t.records.trans = s.records.trans) (hm : s.SameMgmt t) :
    s.KeepsLedger t :=
  .of_trans hm fun i r hr => ⟨r, by rwa [State.transAt, htrans] at hr, rfl⟩

theorem State.KeepsLedger.of_records {s t : State} (h : t.records = s.records) : s.KeepsLedger t :=
  .of_same (by rw [h]) ⟨by rw [h], by rw [h], by rw [h]⟩

theorem State.keepsLedger_modTap (s : State) (k : Fin 4) (f : Tap → Tap) : s.KeepsLedger (s.modTap k f) :=
  .of_records rfl

/-- A record written over with the same tag. -/
theorem State.keepsLedger_setTrans {s : State} {i : Fin 16} {q r : TransRecord} (hq : s.transAt i = some q)
    (htag : r.tag = q.tag) : s.KeepsLedger (s.setTrans i (some r)) := by
  refine .of_trans ⟨rfl, rfl, rfl⟩ fun j x hx => ?_
  by_cases h : j = i
  · subst h
    rw [State.transAt_setTrans_self] at hx
    cases hx
    exact ⟨q, hq, htag.symm⟩
  · exact ⟨x, by rwa [s.transAt_setTrans_ne h] at hx, rfl⟩

theorem State.keepsLedger_answer (s : State) (i : Fin 16) (code : Code) (data : Option (List Word)) :
    s.KeepsLedger (s.answer i code data) := by
  unfold State.answer
  split
  · exact .refl s
  next r hr =>
    exact (State.keepsLedger_setTrans (r := r.answeredWith code data) hr rfl).trans (.of_same rfl ⟨rfl, rfl, rfl⟩)

theorem State.keepsLedger_answerAll (is : List (Fin 16)) (code : Code) : ∀ s : State,
    s.KeepsLedger (s.answerAll is code) := by
  unfold State.answerAll
  induction is with
  | nil => exact State.KeepsLedger.refl
  | cons i is ih => exact fun s => (s.keepsLedger_answer i code none).trans (ih _)

/-- A freed record releases its tag (R60). -/
theorem State.keepsLedger_freeRecord (s : State) (i : Fin 16) : s.KeepsLedger (s.freeRecord i) := by
  unfold State.freeRecord
  split
  · exact .refl s
  · refine .of_trans ⟨rfl, rfl, rfl⟩ fun j x hx => ?_
    by_cases h : j = i
    · subst h
      simp at hx
    · exact ⟨x, by rwa [State.transAt_modBank, s.transAt_setTrans_ne h] at hx, rfl⟩

/-! ### The management records (R53 to R55) -/

/-- What a record at the head of the management queue is (R54). -/
theorem State.mgmtHead?_eq_some {s : State} {st : MgmtState} {i : Fin 3} {r : MgmtRecord}
    (h : s.mgmtHead? st = some (i, r)) :
    s.records.mgmtQueue.head? = some i ∧ s.mgmtAt i = some r ∧ r.state = st := by
  unfold State.mgmtHead? at h
  split at h
  · exact absurd h (by simp)
  next j l hq =>
    split at h
    next q hr =>
      split at h
      next hst =>
        cases h
        exact ⟨by rw [hq]; rfl, hr, hst⟩
      · exact absurd h (by simp)
    · exact absurd h (by simp)

/-- What the record to begin is (R129). -/
theorem State.beginnable?_eq_some {s : State} {i : Fin 3} {r : MgmtRecord} (h : s.beginnable? = some (i, r)) :
    s.records.mgmtQueue.head? = some i ∧ s.mgmtAt i = some r ∧ r.state = .waiting := by
  unfold State.beginnable? at h
  split at h
  · exact absurd h (by simp)
  · exact State.mgmtHead?_eq_some h

theorem State.startMgmt_changes (s : State) (i : Fin 3) (r : MgmtRecord) :
    (s.startMgmt i r).records.mgmtQueue = s.records.mgmtQueue
      ∧ (s.startMgmt i r).records.mgmtResponses = s.records.mgmtResponses := ⟨rfl, rfl⟩

/-- The record to begin goes to EXECUTING at the head of its queue (R129). -/
theorem State.keepsLedger_startMgmt {s : State} {i : Fin 3} {r : MgmtRecord} (h : s.beginnable? = some (i, r)) :
    s.KeepsLedger (s.startMgmt i r) := by
  obtain ⟨hhead, hr, hwait⟩ := State.beginnable?_eq_some h
  have hself : (s.startMgmt i r).mgmtAt i = some { r with state := .executing } := s.mgmtAt_setMgmt_self i _
  have hne : ∀ j, j ≠ i → (s.startMgmt i r).mgmtAt j = s.mgmtAt j := fun j hj => s.mgmtAt_setMgmt_ne hj _
  refine ⟨fun hs => hs.of_mgmt rfl hne fun q hq => ?_, fun hs => ?_⟩
  · rw [hself] at hq
    cases hq
    exact ⟨r, hr, rfl⟩
  · obtain ⟨hnq, hnp, hq, hp, hrec⟩ := hs
    obtain ⟨-, horphan, hanswer⟩ := hrec i r hr
    refine ⟨hnq, hnp, fun j => (hq j).trans ?_, fun j => (hp j).trans ?_, fun j q hj => ?_⟩
    · by_cases hj : j = i
      · subst hj
        simp [hself, hr, hwait]
      · rw [hne j hj]
    · by_cases hj : j = i
      · subst hj
        simp [hself, hr, hwait]
      · rw [hne j hj]
    · by_cases he : j = i
      · subst he
        rw [hself] at hj
        cases hj
        refine ⟨fun _ => hhead, fun _ => rfl, ?_⟩
        rw [← hanswer, hwait]
        simp
      · exact hrec j q (by rwa [hne j he] at hj)

/-- Behind a record that leaves the management queue an EXECUTING one stays at the head. -/
theorem head?_erase_of_ne {α : Type} [DecidableEq α] {l : List α} {a b : α} (h : l.head? = some b) (hne : b ≠ a) :
    (l.erase a).head? = some b := by
  obtain ⟨rest, rfl⟩ := List.head?_eq_some_iff.1 h
  rw [List.erase_cons_tail (by simpa using hne)]
  rfl

/-- What finishing a record of the management queue makes of the records: answered, or freed if it is an orphan
(R65, R131). -/
theorem State.finishMgmt_record {s : State} {i : Fin 3} {r : MgmtRecord} (hr : s.mgmtAt i = some r) (code : Code)
    (result : List Word) : s.finishMgmt i code result = { s with records := { s.records with
      mgmt := s.records.mgmt.set i
        (if r.orphan then none else some { r with state := .answered, answer := some { code, result } })
      mgmtQueue := s.records.mgmtQueue.erase i
      mgmtResponses := if r.orphan then s.records.mgmtResponses else s.records.mgmtResponses ++ [i] } } := by
  cases ho : r.orphan <;> simp [State.finishMgmt, hr, ho, State.setMgmt]

/-- The end of an operation whose record stands in the management queue (R53, R65, R131). -/
theorem State.keepsLedger_finishMgmt {s : State} {i : Fin 3} (hi : i ∈ s.records.mgmtQueue) (code : Code)
    (result : List Word) : s.KeepsLedger (s.finishMgmt i code result) := by
  cases hr : s.mgmtAt i with
  | none =>
    have he : s.finishMgmt i code result = s := by simp [State.finishMgmt, hr]
    rw [he]
    exact .refl s
  | some r =>
  have heq := State.finishMgmt_record hr code result
  generalize s.finishMgmt i code result = t at heq
  have hself : t.mgmtAt i =
      if r.orphan then none else some { r with state := .answered, answer := some { code, result } } := by
    rw [heq]
    simp [State.mgmtAt]
  have hne : ∀ j, j ≠ i → t.mgmtAt j = s.mgmtAt j := by
    intro j hj
    rw [heq]
    simp [State.mgmtAt, Fin.val_ne_of_ne (Ne.symm hj)]
  refine ⟨fun hs => hs.of_mgmt (by rw [heq]) hne fun q hq => ?_, fun hs => ?_⟩
  · rw [hself] at hq
    split at hq
    · exact absurd hq (by simp)
    · cases hq
      exact ⟨r, hr, rfl⟩
  · obtain ⟨hnq, hnp, hq, hp, hrec⟩ := hs
    obtain ⟨r', hr', hopen⟩ := (hq i).1 hi
    cases hr.symm.trans hr'
    have hip : i ∉ s.records.mgmtResponses := by
      intro h
      obtain ⟨q, hq, ha⟩ := (hp i).1 h
      cases hr.symm.trans hq
      exact hopen ha
    have hqueue : t.records.mgmtQueue = s.records.mgmtQueue.erase i := by rw [heq]
    have hresponses : t.records.mgmtResponses
        = if r.orphan then s.records.mgmtResponses else s.records.mgmtResponses ++ [i] := by rw [heq]
    refine ⟨hqueue ▸ hnq.erase i, ?_, fun j => ?_, fun j => ?_, fun j q hj => ?_⟩
    · rw [hresponses]
      split
      · exact hnp
      · exact hnp.append (List.nodup_singleton i) (List.disjoint_singleton.2 hip)
    · rw [hqueue, hnq.mem_erase_iff]
      by_cases hj : j = i
      · subst hj
        rw [hself]
        split <;> simp
      · rw [hne j hj, ← hq j]
        simp [hj]
    · rw [hresponses]
      by_cases hj : j = i
      · subst hj
        rw [hself]
        split <;> simp [hip]
      · rw [hne j hj, ← hp j]
        split <;> simp [hj]
    · by_cases he : j = i
      · subst he
        rw [hself] at hj
        split at hj
        · exact absurd hj (by simp)
        next ho =>
          cases hj
          exact ⟨fun h => MgmtState.noConfusion h, fun h => absurd h ho, by simp⟩
      · obtain ⟨hexec, hrest⟩ := hrec j q (by rwa [hne j he] at hj)
        refine ⟨fun h => ?_, hrest⟩
        rw [hqueue]
        exact head?_erase_of_ne (hexec h) he

theorem State.keepsLedger_finishExecuting (s : State) (op : Op) (code : Code) (result : List Word) :
    s.KeepsLedger (s.finishExecuting op code result) := by
  unfold State.finishExecuting
  split
  next i r h =>
    split
    · exact State.keepsLedger_finishMgmt (List.mem_of_head? (State.mgmtHead?_eq_some h).1) _ _
    · exact .refl s
  · exact .refl s

/-- A MGMT packet taken into a free record: WAITING at the tail of the queue (R30). -/
theorem State.keepsLedger_keepMgmt {s : State} {i : Fin 3} {m : MgmtPacket} (hfree : s.mgmtAt i = none)
    (htag : s.tagInUse m.tag = false) : s.KeepsLedger (s.keepMgmt i m) := by
  refine ⟨fun hs => ?_, fun hs => ?_⟩
  · refine (State.tagsDiffer_setMgmt hs i ?_).of_from (fun j q hq => ⟨q, hq, rfl⟩) fun j q hq => ⟨q, hq, rfl⟩
    exact htag
  · obtain ⟨hnq, hnp, hq, hp, hrec⟩ := hs
    have hself : (s.keepMgmt i m).mgmtAt i = some (MgmtRecord.mk .waiting m.tag m.operation m.operands none false) :=
      s.mgmtAt_setMgmt_self i _
    have hne : ∀ j, j ≠ i → (s.keepMgmt i m).mgmtAt j = s.mgmtAt j := fun j hj => s.mgmtAt_setMgmt_ne hj _
    have hqueue : (s.keepMgmt i m).records.mgmtQueue = s.records.mgmtQueue ++ [i] := rfl
    have hiq : i ∉ s.records.mgmtQueue := by
      intro h
      obtain ⟨r, hr, -⟩ := (hq i).1 h
      simp [hfree] at hr
    refine ⟨?_, hnp, fun j => ?_, fun j => (hp j).trans ?_, fun j q hj => ?_⟩
    · rw [hqueue]
      exact hnq.append (List.nodup_singleton i) (List.disjoint_singleton.2 hiq)
    · rw [hqueue, List.mem_append, List.mem_singleton, hq j]
      by_cases hj : j = i
      · subst hj
        simp [hself]
      · simp [hne j hj, hj]
    · by_cases hj : j = i
      · subst hj
        simp [hself, hfree]
      · rw [hne j hj]
    · by_cases he : j = i
      · subst he
        rw [hself] at hj
        cases hj
        simp
      · obtain ⟨hexec, hrest⟩ := hrec j q (by rwa [hne j he] at hj)
        refine ⟨fun h => ?_, hrest⟩
        obtain ⟨l, hl⟩ := List.head?_eq_some_iff.1 (hexec h)
        rw [hqueue, hl]
        rfl

theorem State.tagsDiffer_of_empty {s : State} (h : s.records = .empty) : s.TagsDiffer := by
  have ht : ∀ i, s.transAt i = none := fun i => by simp [State.transAt, h, RecordTable.empty]
  have hm : ∀ i, s.mgmtAt i = none := fun i => by simp [State.mgmtAt, h, RecordTable.empty]
  refine ⟨?_, ?_, ?_⟩ <;> simp [ht, hm]

theorem State.mgmtPlaced_of_empty {s : State} (h : s.records = .empty) : s.MgmtPlaced := by
  have hm : ∀ i, s.mgmtAt i = none := fun i => by simp [State.mgmtAt, h, RecordTable.empty]
  have hq : s.records.mgmtQueue = [] := by rw [h]; rfl
  have hp : s.records.mgmtResponses = [] := by rw [h]; rfl
  refine ⟨?_, ?_, ?_⟩ <;> simp [hm, hq, hp]

/-- A table without records holds no tag twice and no record out of its place (R48, R67). -/
theorem State.KeepsLedger.of_empty (s : State) {t : State} (h : t.records = .empty) : s.KeepsLedger t :=
  ⟨fun _ => State.tagsDiffer_of_empty h, fun _ => State.mgmtPlaced_of_empty h⟩

/-- The answer at the head of the management response queue has been sent as `u`, and its record i is free
(R60, R182). -/
def State.mgmtSent (s : State) (i : Fin 3) (rest : List (Fin 3)) (u : Up) : State :=
  { s.transmitUp u with
    pointer := .localResponses
    records := { s.records with mgmt := s.records.mgmt.set i none, mgmtResponses := rest } }

theorem State.sendMgmtResponse_eq {s : State} {i : Fin 3} {rest : List (Fin 3)} {r : MgmtRecord} {a : MgmtAnswer}
    (hq : s.records.mgmtResponses = i :: rest) (hr : s.mgmtAt i = some r) (ha : r.answer = some a) :
    s.sendMgmtResponse = if s.endsReset r a then (s.mgmtSent i rest (.mgmtDone r.tag 0 a.code a.result 0)).branchReset
      else s.mgmtSent i rest (.mgmtDone r.tag 0 a.code a.result 0) := by
  unfold State.sendMgmtResponse
  rw [hq]
  simp only [hr, ha]
  rfl

/-- A management answer that is sent frees its record (R60). -/
theorem State.keepsLedger_mgmtSent {s : State} {i : Fin 3} {rest : List (Fin 3)}
    (hq : s.records.mgmtResponses = i :: rest) (u : Up) : s.KeepsLedger (s.mgmtSent i rest u) := by
  have hself : (s.mgmtSent i rest u).mgmtAt i = none := by simp [State.mgmtAt, State.mgmtSent]
  have hne : ∀ j, j ≠ i → (s.mgmtSent i rest u).mgmtAt j = s.mgmtAt j := by
    intro j hj
    simp [State.mgmtAt, State.mgmtSent, Fin.val_ne_of_ne (Ne.symm hj)]
  refine ⟨fun hs => hs.of_mgmt rfl hne fun q hq => by simp [hself] at hq, fun hs => ?_⟩
  obtain ⟨hnq, hnp, hopen, hp, hrec⟩ := hs
  have hresponses : (s.mgmtSent i rest u).records.mgmtResponses = rest := rfl
  rw [hq] at hnp
  obtain ⟨hirest, hnrest⟩ := List.nodup_cons.1 hnp
  obtain ⟨r, hr, hanswered⟩ := (hp i).1 (by simp [hq])
  refine ⟨hnq, hnrest, fun j => (hopen j).trans ?_, fun j => ?_, fun j q hj => ?_⟩
  · by_cases hj : j = i
    · subst hj
      simp [hself, hr, hanswered]
    · rw [hne j hj]
  · rw [hresponses]
    by_cases hj : j = i
    · subst hj
      simp [hself, hirest]
    · rw [hne j hj, ← hp j, hq]
      simp [hj]
  · by_cases he : j = i
    · subst he
      simp [hself] at hj
    · exact hrec j q (by rwa [hne j he] at hj)

theorem State.keepsLedger_sendMgmtResponse (s : State) : s.KeepsLedger s.sendMgmtResponse := by
  cases hq : s.records.mgmtResponses with
  | nil =>
    have he : s.sendMgmtResponse = s := by simp [State.sendMgmtResponse, hq]
    rw [he]
    exact .refl s
  | cons i rest =>
  cases hr : s.mgmtAt i with
  | none =>
    have he : s.sendMgmtResponse = s := by simp [State.sendMgmtResponse, hq, hr]
    rw [he]
    exact .refl s
  | some r =>
  cases ha : r.answer with
  | none =>
    have he : s.sendMgmtResponse = s := by simp [State.sendMgmtResponse, hq, hr, ha]
    rw [he]
    exact .refl s
  | some a =>
  rw [State.sendMgmtResponse_eq hq hr ha]
  split
  · exact .of_empty _ rfl
  · exact State.keepsLedger_mgmtSent hq _

theorem State.keepsLedger_endSession (s : State) : s.KeepsLedger s.endSession where
  tags hs := by
    refine hs.of_from (fun i r hr => ?_) fun i r hr => ?_
    · rw [s.transAt_endSession, transAtUpperLoss_eq] at hr
      obtain ⟨q, hq, hx⟩ := Option.bind_eq_some_iff.1 hr
      split at hx
      · cases hx
        exact ⟨q, hq, rfl⟩
      · exact absurd hx (by simp)
    · obtain ⟨q, hq, -, rfl⟩ := mgmtAtUpperLoss_eq_some_iff.1 ((s.mgmtAt_endSession i).symm.trans hr)
      exact ⟨q, hq, rfl⟩
  mgmt := State.mgmtPlaced_endSession

/-! ### The tap exchange keeps tags and management records -/

theorem State.keepsLedger_raiseFlag (s : State) (n : Nat) : s.KeepsLedger (s.raiseFlag n) := by
  obtain ⟨a, h⟩ := s.raiseFlag_changes n
  rw [h]
  exact .of_records rfl

theorem State.keepsLedger_present {s : State} {t : Fin 4} {i : Fin 16} {q r : TransRecord} (hq : s.transAt i = some q)
    (htag : r.tag = q.tag) : s.KeepsLedger (s.present t i r) :=
  (State.keepsLedger_setTrans (r := { r with state := .issued, waitRemaining := none }) hq htag).trans
    (State.keepsLedger_modTap _ t _)

theorem State.keepsLedger_issue {s : State} {t : Fin 4} {i : Fin 16} {q r : TransRecord} (hq : s.transAt i = some q)
    (htag : r.tag = q.tag) : s.KeepsLedger (s.issue t i r) :=
  (State.keepsLedger_present hq htag).trans (State.keepsLedger_modTap _ t _)

theorem State.keepsLedger_examine (s : State) (t : Fin 4) : s.KeepsLedger (s.examine t) := by
  unfold State.examine
  split
  · exact .refl s
  split
  · exact .refl s
  next r hr =>
    split
    · exact (State.keepsLedger_setTrans (r := { r with state := .held }) hr rfl).trans
        ((State.keepsLedger_modTap _ t _).trans (State.keepsLedger_raiseFlag _ _))
    · exact State.keepsLedger_issue hr rfl

theorem State.keepsLedger_reissue (s : State) (t : Fin 4) : s.KeepsLedger (s.reissue t) := by
  unfold State.reissue
  split
  · exact .refl s
  split
  · exact .refl s
  next r hr => exact (State.keepsLedger_present hr rfl).trans (State.keepsLedger_modTap _ t _)

theorem State.keepsLedger_completeDisable (s : State) (t : Fin 4) : s.KeepsLedger (s.completeDisable t) :=
  (State.keepsLedger_answerAll _ _ s).trans
    ((State.keepsLedger_modTap _ t _).trans (State.keepsLedger_finishExecuting _ _ _ _))

theorem State.keepsLedger_leaveIssued (s : State) (t : Fin 4) : s.KeepsLedger (s.leaveIssued t) := by
  unfold State.leaveIssued
  split
  · exact s.keepsLedger_completeDisable t
  · exact s.keepsLedger_modTap t _

theorem State.keepsLedger_endIssued (s : State) (t : Fin 4) (i : Fin 16) (r : TransRecord) (code : Code)
    (data : Option (List Word)) : s.KeepsLedger (s.endIssued t i r code data) := by
  unfold State.endIssued
  split
  · exact (s.keepsLedger_modTap t _).trans (State.keepsLedger_freeRecord _ i)
  · exact s.keepsLedger_answer i code data

/-- An acknowledge that ends the issued record: with a code, or whatever its code for an orphan (R64, R76). -/
theorem State.takeAck_ends {s : State} {t : Fin 4} {i : Fin 16} {rest : List (Fin 16)} {r : TransRecord}
    (hq : (s.tap t).queue = i :: rest) (hr : s.transAt i = some r) {kind : AckKind} {code : Code}
    (h : r.orphan = true ∨ ackCode kind (s.tap t).disablePending r.retryCount s.mgmt.params.retryLimit = some code)
    (words : List Word) : s.takeAck t kind words = ((s.closeExchange t).endIssued t i r code
      (if r.kind = .read ∧ code = .ok then some words else none)).leaveIssued t := by
  unfold State.takeAck State.endIssued
  rw [hq]
  simp only [hr]
  by_cases ho : r.orphan = true
  · rw [if_pos ho, if_pos ho]
  · rw [if_neg ho, if_neg ho, h.resolve_left ho]

/-- A RETRY that sends the issued record to RETRY_WAIT (R76). -/
theorem State.takeAck_retries {s : State} {t : Fin 4} {i : Fin 16} {rest : List (Fin 16)} {r : TransRecord}
    (hq : (s.tap t).queue = i :: rest) (hr : s.transAt i = some r) (ho : r.orphan = false) {kind : AckKind}
    (h : ackCode kind (s.tap t).disablePending r.retryCount s.mgmt.params.retryLimit = none) (words : List Word) :
    s.takeAck t kind words = (s.closeExchange t).enterRetryWait t i r := by
  unfold State.takeAck
  rw [hq]
  simp only [hr, ho, h, Bool.false_eq_true, if_false]

/-- What an acknowledge comes to: nothing, the end of the issued record, or RETRY_WAIT (R64, R76). -/
theorem State.takeAck_cases (s : State) (t : Fin 4) (kind : AckKind) (words : List Word) :
    s.takeAck t kind words = s ∨ ∃ i rest r, (s.tap t).queue = i :: rest ∧ s.transAt i = some r ∧
      ((∃ code data, s.takeAck t kind words = ((s.closeExchange t).endIssued t i r code data).leaveIssued t) ∨
        (r.orphan = false ∧ (s.tap t).disablePending = false ∧
          s.takeAck t kind words = (s.closeExchange t).enterRetryWait t i r)) := by
  cases hq : (s.tap t).queue with
  | nil => exact .inl (by unfold State.takeAck; rw [hq])
  | cons i rest =>
  cases hr : s.transAt i with
  | none => exact .inl (by unfold State.takeAck; rw [hq]; simp only [hr])
  | some r =>
  refine .inr ⟨i, rest, r, rfl, hr, ?_⟩
  cases hcode : ackCode kind (s.tap t).disablePending r.retryCount s.mgmt.params.retryLimit with
  | some code => exact .inl ⟨_, _, State.takeAck_ends hq hr (.inr hcode) words⟩
  | none =>
    cases ho : r.orphan with
    | true => exact .inl ⟨.ok, _, State.takeAck_ends hq hr (.inl ho) words⟩
    | false =>
      refine .inr ⟨rfl, ?_, State.takeAck_retries hq hr ho hcode words⟩
      cases hd : (s.tap t).disablePending
      · rfl
      · cases kind <;> simp [ackCode, hd] at hcode

theorem State.keepsLedger_takeAck (s : State) (t : Fin 4) (kind : AckKind) (words : List Word) :
    s.KeepsLedger (s.takeAck t kind words) := by
  have hclose : s.KeepsLedger (s.closeExchange t) := s.keepsLedger_modTap t _
  obtain h | ⟨i, rest, r, -, hr, ⟨code, data, h⟩ | ⟨-, -, h⟩⟩ := s.takeAck_cases t kind words <;> rw [h]
  · exact .refl s
  · exact hclose.trans ((State.keepsLedger_endIssued _ t i r code data).trans (State.keepsLedger_leaveIssued _ t))
  · have hr' : (s.closeExchange t).transAt i = some r := hr
    exact hclose.trans ((State.keepsLedger_setTrans
      (r := { r with state := .retryWait, retryCount := r.retryCount + 1 }) hr' rfl).trans
        (State.keepsLedger_modTap _ t _))

/-- What an acknowledge that the part looks at comes to: it is late, begins a transfer, or is taken (R76, R79, R191). -/
theorem State.takeStrobe_cases (s : State) (t : Fin 4) (k : BitVec 2) :
    s.takeStrobe t k = s.lateAck t ∨ (∃ n, s.takeStrobe t k = s.startTransfer t n) ∨
      ((s.tap t).state = .issued ∧ ∃ kind, s.takeStrobe t k = s.takeAck t kind []) := by
  unfold State.takeStrobe
  split
  · exact .inl rfl
  next hissued =>
    have hissued := not_not.1 hissued
    split
    · split
      · exact .inr (.inl ⟨_, rfl⟩)
      · exact .inr (.inr ⟨hissued, _, rfl⟩)
    · exact .inr (.inr ⟨hissued, _, rfl⟩)

theorem State.keepsLedger_takeStrobe (s : State) (t : Fin 4) (k : BitVec 2) : s.KeepsLedger (s.takeStrobe t k) := by
  obtain h | ⟨n, h⟩ | ⟨-, kind, h⟩ := s.takeStrobe_cases t k <;> rw [h]
  · exact s.keepsLedger_modTap t _
  · exact s.keepsLedger_modTap t _
  · exact s.keepsLedger_takeAck t kind []

theorem State.keepsLedger_riseOfAck (s : State) (t : Fin 4) (k : BitVec 2) : s.KeepsLedger (s.riseOfAck t k) := by
  unfold State.riseOfAck
  split
  · exact s.keepsLedger_modTap t _
  · exact s.keepsLedger_takeStrobe t k

theorem State.keepsLedger_takeRises (t : Fin 4) (l : List (BitVec 2)) : ∀ s : State,
    s.KeepsLedger (s.takeRises t l) := by
  induction l with
  | nil => exact State.KeepsLedger.refl
  | cons k rest ih =>
    intro s
    unfold State.takeRises
    split
    · exact (s.keepsLedger_modTap t _).trans ((State.keepsLedger_takeStrobe _ t k).trans (ih _))
    · exact .refl s

theorem State.keepsLedger_releaseData (s : State) (t : Fin 4) : s.KeepsLedger (s.releaseData t) := by
  unfold State.releaseData
  split
  · exact (s.keepsLedger_modTap t _).trans (State.keepsLedger_takeRises t _ _)
  · exact .refl s

theorem State.keepsLedger_takeDone (s : State) (t : Fin 4) (x : Transfer) : s.KeepsLedger (s.takeDone t x) := by
  unfold State.takeDone
  split
  · exact s.keepsLedger_takeAck t _ _
  · exact s.keepsLedger_modTap t _

theorem State.keepsLedger_takeDones (t : Fin 4) (l : List Transfer) : ∀ s : State,
    s.KeepsLedger (l.foldl (fun c x => c.takeDone t x) s) := by
  induction l with
  | nil => exact State.KeepsLedger.refl
  | cons x rest ih => exact fun s => (s.keepsLedger_takeDone t x).trans (ih _)

theorem State.keepsLedger_takeByte (s : State) (t : Fin 4) (b : Byte) : s.KeepsLedger (s.takeByte t b) := by
  unfold State.takeByte
  dsimp only
  split
  · exact (s.keepsLedger_modTap t _).trans
      ((State.keepsLedger_takeDones t _ _).trans (State.keepsLedger_examine _ t))
  · exact (s.keepsLedger_modTap t _).trans (State.keepsLedger_takeDones t _ _)

theorem State.keepsLedger_faultTap (s : State) (t : Fin 4) : s.KeepsLedger (s.faultTap t) := by
  unfold State.faultTap
  split
  · exact s.keepsLedger_completeDisable t
  · exact (State.keepsLedger_answerAll _ _ s).trans (State.keepsLedger_modTap _ t _)

theorem State.keepsLedger_timeOut (s : State) (t : Fin 4) : s.KeepsLedger (s.timeOut t) := by
  unfold State.timeOut
  split
  · exact .refl s
  split
  · exact .refl s
  · exact (s.keepsLedger_modTap t _).trans ((State.keepsLedger_modTap _ t _).trans
      ((State.keepsLedger_endIssued _ t _ _ _ _).trans
        ((State.keepsLedger_faultTap _ t).trans (State.keepsLedger_raiseFlag _ _))))

theorem State.keepsLedger_disableAtOnce (s : State) (t : Fin 4) : s.KeepsLedger (s.disableAtOnce t) :=
  (State.keepsLedger_answerAll _ _ s).trans (State.keepsLedger_modTap _ t _)

/-! ### A claim kept keeps tags different (R36, R37) -/

theorem State.keepsLedger_allocate {s : State} (i : Fin 16) {r : TransRecord} (hfree : s.tagInUse r.tag = false) :
    s.KeepsLedger (s.allocate i r) where
  tags hs := by
    refine (State.tagsDiffer_setTrans (r := { r with hold := s.marks r }) hs i hfree).of_from
      (fun j q hq => ⟨q, ?_, rfl⟩) fun j q hq => ⟨q, hq, rfl⟩
    exact hq
  mgmt := State.SameMgmt.mgmtPlaced ⟨rfl, rfl, rfl⟩

theorem not_of_ite_eq_none {α : Type} {p : Prop} [Decidable p] {x : α} {o : Option α}
    (h : (if p then some x else o) = none) : ¬ p ∧ o = none := by
  split at h
  · exact absurd h (by simp)
  next hp => exact ⟨hp, h⟩

/-- A claim that passes the checks has a tag that is not in use, and a place in the queue of a tap that takes records
(R33, R36). -/
theorem State.claimCheck_passed {s : State} {w : Window} {q : Request} (h : s.claimCheck w q = none) :
    s.tagInUse q.tag = false ∧ (s.tap w.claimTap).queue.length < 6 ∧ (s.tap w.claimTap).state ≠ .disabled ∧
      (s.tap w.claimTap).state ≠ .faulted := by
  obtain ⟨-, h⟩ := not_of_ite_eq_none h
  obtain ⟨-, h⟩ := not_of_ite_eq_none h
  obtain ⟨-, h⟩ := not_of_ite_eq_none h
  obtain ⟨hdisabled, h⟩ := not_of_ite_eq_none h
  obtain ⟨hfaulted, h⟩ := not_of_ite_eq_none h
  obtain ⟨htag, h⟩ := not_of_ite_eq_none h
  obtain ⟨hfull, -⟩ := not_of_ite_eq_none h
  exact ⟨by simpa using htag, Nat.not_le.1 hfull, fun hd => hdisabled (.inl hd), hfaulted⟩

end Sys2Proof.Machine

/-! ## Records in their places

The invariant on transaction records has a part on the table and the queues (`State.Queued`), which every operation on
one record keeps, and a part on each tap (`Tap.Agrees`), which holds again once the event has given the tap its state.
An event of tap k leaves the other taps and their records alone (`State.TouchesTap`), so that only the tap k is looked
at. -/

namespace Sys2Proof.Machine

/-! ### The two parts of the invariant -/

/-- A tap's head record is in the state that the tap's state names, and presented while it is ISSUED (R71, R72). -/
def Tap.HeadAgrees (low : Bool) (rec : Fin 16 → Option TransRecord) (p : Tap) : Prop :=
  match p.state with
  | .disabled | .faulted => p.queue = []
  | .idle => ∀ i r, p.queue.head? = some i → rec i = some r → r.state = .queued
  | .issued => ∃ i r, p.queue.head? = some i ∧ rec i = some r ∧ r.state = .issued
      ∧ (low = false → ∃ a, p.presented =
          some { kind := r.kind, localAddress := a, length := r.length, data := r.writeData.getD [] })
  | .retryWait => ∃ i r, p.queue.head? = some i ∧ rec i = some r ∧ r.state = .retryWait
  | .held => ∃ i r, p.queue.head? = some i ∧ rec i = some r ∧ r.state = .held

/-- A tap agrees with the records `rec` of its queue: its head as its state says, the others QUEUED, its timers, its request
and TtD as its state says. A rise of TtACK waits in ISSUED alone, and while TtD is driven unless `released` (R69 to R72,
R191). -/
structure Tap.Agrees (low : Bool) (rec : Fin 16 → Option TransRecord) (released : Bool) (p : Tap) : Prop where
  pending : p.disablePending = true → p.state = .issued
  behind : ∀ i r, i ∈ p.queue.tail → rec i = some r → r.state = .queued
  head : p.HeadAgrees low rec
  ack : p.ackTimer.isSome = true ↔ p.state = .issued
  retry : p.retryTimer.isSome = true ↔ p.state = .retryWait
  presented : low = false → (p.presented.isSome = true ↔ p.state = .issued)
  driving : p.driving = true → p.state = .issued
  rises : p.rises ≠ [] → p.state = .issued ∧ (p.driving = true ∨ released = true)

/-- Each unanswered record stands once in the queue of its tap, each answered one once in the local response queue, and
orphans are ISSUED (R50, R57, R64, R70). -/
structure State.Queued (s : State) : Prop where
  queue : ∀ k i, i ∈ (s.tap k).queue ↔ ∃ r, s.transAt i = some r ∧ r.tap = k ∧ r.state ≠ .answered
  responses : ∀ i, i ∈ s.records.localResponses ↔ ∃ r, s.transAt i = some r ∧ r.state = .answered
  once : s.records.localResponses.Nodup
  orphan : ∀ i r, s.transAt i = some r → r.orphan = true → r.state = .issued
  nodup : ∀ k, (s.tap k).queue.Nodup
  length : ∀ k, (s.tap k).queue.length ≤ 6

/-- The records are in their queues and each tap agrees with its own; tap `o`, if any, has released TtD and is yet to take
the rises that waited for that. -/
def State.Placed (o : Option (Fin 4)) (s : State) : Prop :=
  s.Queued ∧ ∀ k, (s.tap k).Agrees s.resetLow s.transAt (decide (o = some k))

theorem State.placed_none_iff {s : State} : s.Placed none ↔ s.RecordsPlaced ∧ s.ExchangesAgree := by
  constructor
  · rintro ⟨hq, ha⟩
    refine ⟨⟨hq.queue, hq.responses, hq.once, hq.orphan, fun k => ⟨hq.nodup k, hq.length k, (ha k).pending,
      (ha k).behind, (ha k).head⟩⟩, fun k => ⟨(ha k).ack, (ha k).retry, (ha k).presented, (ha k).driving, fun h => ?_⟩⟩
    exact ((ha k).rises h).2.resolve_right (by simp)
  · rintro ⟨⟨hqueue, hresponses, honce, horphan, htap⟩, he⟩
    refine ⟨⟨hqueue, hresponses, honce, horphan, fun k => (htap k).1, fun k => (htap k).2.1⟩, fun k => ?_⟩
    obtain ⟨-, -, hpending, hbehind, hhead⟩ := htap k
    obtain ⟨hack, hretry, hpresented, hdriving, hrises⟩ := he k
    exact ⟨hpending, hbehind, hhead, hack, hretry, hpresented, hdriving, fun h => ⟨hdriving (hrises h), .inl (hrises h)⟩⟩

/-! ### What the invariant looks at -/

/-- The fields of a tap port that the invariant speaks of. -/
def Tap.service (p : Tap) :
    TapState × Bool × List (Fin 16) × Bool × Bool × Option TapRequest × Bool × List (BitVec 2) :=
  (p.state, p.disablePending, p.queue, p.ackTimer.isSome, p.retryTimer.isSome, p.presented, p.driving, p.rises)

/-- The fields of a record that the invariant speaks of. -/
def TransRecord.place (r : TransRecord) : TransState × Fin 4 × Bool × Kind × Nat × Option (List Word) :=
  (r.state, r.tap, r.orphan, r.kind, r.length, r.writeData)

theorem place_of_map_eq {o o' : Option TransRecord} (h : o'.map TransRecord.place = o.map TransRecord.place)
    {r : TransRecord} (hr : o' = some r) : ∃ q, o = some q ∧ r.place = q.place := by
  rw [hr] at h
  obtain ⟨q, hq, he⟩ := Option.map_eq_some_iff.1 h.symm
  exact ⟨q, hq, he.symm⟩

theorem Tap.HeadAgrees.congr {low : Bool} {rec rec' : Fin 16 → Option TransRecord} {p p' : Tap}
    (h : p.HeadAgrees low rec) (hst : p'.state = p.state) (hqueue : p'.queue = p.queue)
    (hpresented : p'.presented = p.presented)
    (hrec : ∀ i ∈ p.queue, (rec' i).map TransRecord.place = (rec i).map TransRecord.place) :
    p'.HeadAgrees low rec' := by
  have hto : ∀ {i}, p.queue.head? = some i → ∀ {r}, rec i = some r → ∃ q, rec' i = some q ∧ r.place = q.place :=
    fun hi => place_of_map_eq (hrec _ (List.mem_of_head? hi)).symm
  unfold Tap.HeadAgrees at h ⊢
  rw [hst, hqueue, hpresented]
  cases hs : p.state <;> rw [hs] at h <;> dsimp only at h ⊢
  case disabled => exact h
  case faulted => exact h
  case idle =>
    intro i r hi hr
    obtain ⟨q, hq, he⟩ := place_of_map_eq (hrec i (List.mem_of_head? hi)) hr
    simp only [TransRecord.place, Prod.mk.injEq] at he
    exact he.1.trans (h i q hi hq)
  case issued =>
    obtain ⟨i, r, hi, hr, hri, hreq⟩ := h
    obtain ⟨q, hq, he⟩ := hto hi hr
    simp only [TransRecord.place, Prod.mk.injEq] at he
    obtain ⟨estate, -, -, ekind, elength, edata⟩ := he
    exact ⟨i, q, hi, hq, estate ▸ hri, by rw [← ekind, ← elength, ← edata]; exact hreq⟩
  case retryWait =>
    obtain ⟨i, r, hi, hr, hrs⟩ := h
    obtain ⟨q, hq, he⟩ := hto hi hr
    simp only [TransRecord.place, Prod.mk.injEq] at he
    exact ⟨i, q, hi, hq, he.1 ▸ hrs⟩
  case held =>
    obtain ⟨i, r, hi, hr, hrs⟩ := h
    obtain ⟨q, hq, he⟩ := hto hi hr
    simp only [TransRecord.place, Prod.mk.injEq] at he
    exact ⟨i, q, hi, hq, he.1 ▸ hrs⟩

theorem Tap.Agrees.congr {low released : Bool} {rec rec' : Fin 16 → Option TransRecord} {p p' : Tap}
    (h : p.Agrees low rec released) (hp : p'.service = p.service)
    (hrec : ∀ i ∈ p.queue, (rec' i).map TransRecord.place = (rec i).map TransRecord.place) :
    p'.Agrees low rec' released := by
  simp only [Tap.service, Prod.mk.injEq] at hp
  obtain ⟨hst, hpending, hqueue, hack, hretry, hpresented, hdriving, hrises⟩ := hp
  refine ⟨?_, fun i r hi hr => ?_, h.head.congr hst hqueue hpresented hrec, ?_, ?_, ?_, ?_, ?_⟩
  · rw [hpending, hst]
    exact h.pending
  · rw [hqueue] at hi
    obtain ⟨q, hq, he⟩ := place_of_map_eq (hrec i (List.mem_of_mem_tail hi)) hr
    simp only [TransRecord.place, Prod.mk.injEq] at he
    exact he.1.trans (h.behind i q hi hq)
  · rw [hack, hst]
    exact h.ack
  · rw [hretry, hst]
    exact h.retry
  · rw [hpresented, hst]
    exact h.presented
  · rw [hdriving, hst]
    exact h.driving
  · rw [hrises, hst, hdriving]
    exact h.rises

theorem State.Queued.congr {s t : State} (hs : s.Queued)
    (htrans : ∀ i, (t.transAt i).map TransRecord.place = (s.transAt i).map TransRecord.place)
    (hresponses : t.records.localResponses = s.records.localResponses)
    (hqueue : ∀ k, (t.tap k).queue = (s.tap k).queue) : t.Queued := by
  have hex : ∀ (i : Fin 16) (f : TransState × Fin 4 × Bool × Kind × Nat × Option (List Word) → Prop),
      (∃ r, t.transAt i = some r ∧ f r.place) ↔ ∃ r, s.transAt i = some r ∧ f r.place := by
    intro i f
    constructor
    · rintro ⟨r, hr, hf⟩
      obtain ⟨q, hq, he⟩ := place_of_map_eq (htrans i) hr
      exact ⟨q, hq, he ▸ hf⟩
    · rintro ⟨r, hr, hf⟩
      obtain ⟨q, hq, he⟩ := place_of_map_eq (htrans i).symm hr
      exact ⟨q, hq, he ▸ hf⟩
  refine ⟨fun k i => ?_, fun i => ?_, hresponses ▸ hs.once, fun i r hr ho => ?_, fun k => hqueue k ▸ hs.nodup k,
    fun k => hqueue k ▸ hs.length k⟩
  · rw [hqueue, hs.queue]
    exact (hex i fun x => x.2.1 = k ∧ x.1 ≠ .answered).symm
  · rw [hresponses, hs.responses]
    exact (hex i fun x => x.1 = .answered).symm
  · obtain ⟨q, hq, he⟩ := place_of_map_eq (htrans i) hr
    simp only [TransRecord.place, Prod.mk.injEq] at he
    obtain ⟨estate, -, eorphan, -⟩ := he
    exact estate.trans (hs.orphan i q hq (eorphan ▸ ho))

theorem State.Placed.congr {o : Option (Fin 4)} {s t : State} (hs : s.Placed o) (hlow : t.resetLow = s.resetLow)
    (htrans : ∀ i, (t.transAt i).map TransRecord.place = (s.transAt i).map TransRecord.place)
    (hresponses : t.records.localResponses = s.records.localResponses)
    (hservice : ∀ k, (t.tap k).service = (s.tap k).service) : t.Placed o := by
  obtain ⟨hq, ha⟩ := hs
  refine ⟨hq.congr htrans hresponses fun k => ?_, fun k => ?_⟩
  · exact congrArg (fun x => x.2.2.1) (hservice k)
  · rw [hlow]
    exact (ha k).congr (hservice k) fun i _ => htrans i

/-! ### Taps in each state -/

/-- No request stands at the tap: its acknowledge timer is stopped, TtD is released and no rise of TtACK waits (R72,
R191). -/
structure Tap.Withdrawn (low : Bool) (p : Tap) : Prop where
  ack : p.ackTimer = none
  presented : low = false → p.presented = none
  driving : p.driving = false
  rises : p.rises = []

theorem Tap.Withdrawn.of_same {low : Bool} {p q : Tap} (h : p.Withdrawn low) (hack : q.ackTimer = p.ackTimer)
    (hpresented : q.presented = p.presented) (hdriving : q.driving = p.driving) (hrises : q.rises = p.rises) :
    q.Withdrawn low :=
  ⟨hack.trans h.ack, fun hlow => hpresented.trans (h.presented hlow), hdriving.trans h.driving, hrises.trans h.rises⟩

theorem Tap.withdrawn_withdraw (low : Bool) (p : Tap) : p.withdraw.Withdrawn low := ⟨rfl, fun _ => rfl, rfl, rfl⟩

section
variable {low released : Bool} {rec : Fin 16 → Option TransRecord} {p : Tap}

theorem Tap.Agrees.withdrawn (h : p.Agrees low rec released) (hst : p.state ≠ .issued) : p.Withdrawn low where
  ack := by simpa using mt h.ack.1 hst
  presented hlow := by simpa using mt (h.presented hlow).1 hst
  driving := by simpa using mt h.driving hst
  rises := not_not.1 fun hr => hst (h.rises hr).1

theorem Tap.Agrees.not_pending (h : p.Agrees low rec released) (hst : p.state ≠ .issued) : p.disablePending = false := by
  simpa using mt h.pending hst

theorem Tap.Agrees.retryTimer (h : p.Agrees low rec released) (hst : p.state ≠ .retryWait) : p.retryTimer = none := by
  simpa using mt h.retry.1 hst

/-- A tap without a request agrees with its records if its state, its retry timer and its queue fit. -/
theorem Tap.Withdrawn.agrees (h : p.Withdrawn low) (hpending : p.disablePending = false) (hst : p.state ≠ .issued)
    (hretry : p.retryTimer.isSome = true ↔ p.state = .retryWait) (hhead : p.HeadAgrees low rec)
    (hbehind : ∀ i r, i ∈ p.queue.tail → rec i = some r → r.state = .queued) : p.Agrees low rec released where
  pending hp := by simp [hpending] at hp
  behind := hbehind
  head := hhead
  ack := by simp [h.ack, hst]
  retry := hretry
  presented hlow := by simp [h.presented hlow, hst]
  driving hd := by simp [h.driving] at hd
  rises hr := absurd h.rises hr

/-- A tap that is left without records. -/
theorem Tap.Withdrawn.agrees_empty (h : p.Withdrawn low) (hpending : p.disablePending = false)
    (hst : p.state = .disabled ∨ p.state = .faulted) (hretry : p.retryTimer = none) (hqueue : p.queue = []) :
    p.Agrees low rec released := by
  obtain hst | hst := hst <;>
    exact h.agrees hpending (by simp [hst]) (by simp [hst, hretry]) (by simp [Tap.HeadAgrees, hst, hqueue])
      (by simp [hqueue])

/-- A tap whose records all wait to be examined. -/
theorem Tap.Withdrawn.agrees_idle (h : p.Withdrawn low) (hpending : p.disablePending = false) (hst : p.state = .idle)
    (hretry : p.retryTimer = none) (hqueued : ∀ i r, i ∈ p.queue → rec i = some r → r.state = .queued) :
    p.Agrees low rec released :=
  h.agrees hpending (by simp [hst]) (by simp [hst, hretry])
    (by simpa [Tap.HeadAgrees, hst] using fun i r hi => hqueued i r (List.mem_of_head? hi))
    fun i r hi => hqueued i r (List.mem_of_mem_tail hi)

/-- In IDLE every record of the queue is QUEUED (R50, R71). -/
theorem Tap.Agrees.queued_of_idle (h : p.Agrees low rec released) (hst : p.state = .idle) {i : Fin 16} {r : TransRecord}
    (hi : i ∈ p.queue) (hr : rec i = some r) : r.state = .queued := by
  have hhead := h.head
  simp only [Tap.HeadAgrees, hst] at hhead
  cases hq : p.queue with
  | nil => simp [hq] at hi
  | cons j rest =>
    rw [hq] at hi
    rcases List.mem_cons.1 hi with rfl | hi
    · exact hhead i r (by simp [hq]) hr
    · exact h.behind i r (by simpa [hq] using hi) hr

/-- In ISSUED the head record is ISSUED, with the others behind it (R71). -/
theorem Tap.Agrees.head_of_issued (h : p.Agrees low rec released) (hst : p.state = .issued) :
    ∃ i rest r, p.queue = i :: rest ∧ rec i = some r ∧ r.state = .issued := by
  have hhead := h.head
  simp only [Tap.HeadAgrees, hst] at hhead
  obtain ⟨i, r, hi, hr, hrs, -⟩ := hhead
  obtain ⟨rest, hq⟩ := List.head?_eq_some_iff.1 hi
  exact ⟨i, rest, r, hq, hr, hrs⟩

end

/-! ### Records of the queues -/

theorem State.Queued.mem {s : State} (hs : s.Queued) {i : Fin 16} {r : TransRecord} (hr : s.transAt i = some r)
    (hopen : r.state ≠ .answered) : i ∈ (s.tap r.tap).queue := (hs.queue r.tap i).2 ⟨r, hr, rfl, hopen⟩

theorem State.Queued.record {s : State} (hs : s.Queued) {k : Fin 4} {i : Fin 16} (hi : i ∈ (s.tap k).queue) :
    ∃ r, s.transAt i = some r ∧ r.tap = k ∧ r.state ≠ .answered := (hs.queue k i).1 hi

/-- The record of a place in a tap's queue names the tap and is not answered. -/
theorem State.Queued.of_mem {s : State} (hs : s.Queued) {k : Fin 4} {i : Fin 16} {r : TransRecord}
    (hi : i ∈ (s.tap k).queue) (hr : s.transAt i = some r) : r.tap = k ∧ r.state ≠ .answered := by
  obtain ⟨q, hq, hk⟩ := hs.record hi
  cases hr.symm.trans hq
  exact hk

theorem State.queue_dequeue (s : State) (k u : Fin 4) (i : Fin 16) :
    ((s.dequeue k i).tap u).queue = if u = k then (s.tap u).queue.erase i else (s.tap u).queue := by
  by_cases h : u = k
  · subst h
    rw [if_pos rfl, State.dequeue, State.tap_modTap_self]
  · rw [if_neg h, State.dequeue, s.tap_modTap_ne h]

theorem State.Queued.mem_dequeue {s : State} (hs : s.Queued) {i : Fin 16} {r : TransRecord} (hr : s.transAt i = some r)
    (u : Fin 4) (j : Fin 16) : j ∈ ((s.dequeue r.tap i).tap u).queue ↔ j ≠ i ∧ j ∈ (s.tap u).queue := by
  rw [s.queue_dequeue]
  split
  next h => exact (hs.nodup u).mem_erase_iff
  next h =>
    refine ⟨fun hj => ⟨?_, hj⟩, fun hj => hj.2⟩
    rintro rfl
    exact h (hs.of_mem hj hr).1.symm

/-- A record leaves its queue: it is FREE, or answered and at the tail of the local response queue (R51, R60). -/
theorem State.Queued.leave {s t : State} (hs : s.Queued) {i : Fin 16} {r : TransRecord} (hr : s.transAt i = some r)
    (hopen : r.state ≠ .answered) (hne : ∀ j, j ≠ i → t.transAt j = s.transAt j)
    (hqueue : ∀ u, (t.tap u).queue = ((s.dequeue r.tap i).tap u).queue)
    (hi : (t.transAt i = none ∧ t.records.localResponses = s.records.localResponses) ∨
      ∃ x, t.transAt i = some x ∧ x.state = .answered ∧ x.orphan = false
        ∧ t.records.localResponses = s.records.localResponses ++ [i]) : t.Queued := by
  have hni : i ∉ s.records.localResponses := by
    intro h
    obtain ⟨q, hq, ha⟩ := (hs.responses i).1 h
    cases hr.symm.trans hq
    exact hopen ha
  refine ⟨fun u j => ?_, fun j => ?_, ?_, fun j q hq ho => ?_, fun u => ?_, fun u => ?_⟩
  · rw [hqueue, hs.mem_dequeue hr]
    by_cases hj : j = i
    · subst hj
      obtain ⟨h, -⟩ | ⟨x, h, ha, -⟩ := hi <;> simp [*]
    · rw [hne j hj, hs.queue]
      simp [hj]
  · by_cases hj : j = i
    · subst hj
      obtain ⟨h, hl⟩ | ⟨x, h, ha, -, hl⟩ := hi <;> simp [*]
    · rw [hne j hj, ← hs.responses]
      obtain ⟨-, hl⟩ | ⟨x, -, -, -, hl⟩ := hi <;> simp [*]
  · obtain ⟨-, hl⟩ | ⟨x, -, -, -, hl⟩ := hi <;> rw [hl]
    · exact hs.once
    · exact hs.once.append (List.nodup_singleton i) (List.disjoint_singleton.2 hni)
  · by_cases hj : j = i
    · subst hj
      obtain ⟨h, -⟩ | ⟨x, h, -, hx, -⟩ := hi
      · simp [h] at hq
      · cases h.symm.trans hq
        simp [hx] at ho
    · exact hs.orphan j q (hne j hj ▸ hq) ho
  · rw [hqueue, s.queue_dequeue]
    split
    · exact (hs.nodup u).erase i
    · exact hs.nodup u
  · rw [hqueue, s.queue_dequeue]
    split
    · exact (List.length_erase_le).trans (hs.length u)
    · exact hs.length u

/-! ### What an answer, a freed record and a written record are -/

theorem State.transAt_answer_self {s : State} {i : Fin 16} {r : TransRecord} (hr : s.transAt i = some r) (code : Code)
    (data : Option (List Word)) : (s.answer i code data).transAt i = some (r.answeredWith code data) := by
  simp only [State.answer, hr]
  exact s.transAt_setTrans_self i _

theorem State.transAt_answer_ne (s : State) {i j : Fin 16} (h : j ≠ i) (code : Code) (data : Option (List Word)) :
    (s.answer i code data).transAt j = s.transAt j := by
  unfold State.answer
  split
  · rfl
  · exact s.transAt_setTrans_ne h _

theorem State.tap_answer {s : State} {i : Fin 16} {r : TransRecord} (hr : s.transAt i = some r) (code : Code)
    (data : Option (List Word)) (u : Fin 4) : (s.answer i code data).tap u = (s.dequeue r.tap i).tap u := by
  simp only [State.answer, hr]
  rfl

theorem State.responses_answer {s : State} {i : Fin 16} {r : TransRecord} (hr : s.transAt i = some r) (code : Code)
    (data : Option (List Word)) :
    (s.answer i code data).records.localResponses = s.records.localResponses ++ [i] := by
  simp only [State.answer, hr]
  rfl

theorem State.resetLow_answer (s : State) (i : Fin 16) (code : Code) (data : Option (List Word)) :
    (s.answer i code data).resetLow = s.resetLow := by
  obtain ⟨tr, lr, ts, h⟩ := s.answer_changes i code data
  rw [h]

theorem State.Queued.answer {s : State} (hs : s.Queued) {i : Fin 16} {r : TransRecord} (hr : s.transAt i = some r)
    (hopen : r.state ≠ .answered) (ho : r.orphan = false) (code : Code) (data : Option (List Word)) :
    (s.answer i code data).Queued :=
  hs.leave hr hopen (fun _ hj => s.transAt_answer_ne hj code data)
    (fun u => congrArg Tap.queue (State.tap_answer hr code data u))
    (.inr ⟨_, State.transAt_answer_self hr code data, rfl, ho, State.responses_answer hr code data⟩)

theorem State.transAt_freeRecord_self (s : State) (i : Fin 16) : (s.freeRecord i).transAt i = none := by
  unfold State.freeRecord
  split
  next h => exact h
  · exact s.transAt_setTrans_self i none

theorem State.transAt_freeRecord_ne (s : State) {i j : Fin 16} (h : j ≠ i) :
    (s.freeRecord i).transAt j = s.transAt j := by
  unfold State.freeRecord
  split
  · rfl
  · exact s.transAt_setTrans_ne h none

theorem State.Queued.free {s : State} (hs : s.Queued) {i : Fin 16} {r : TransRecord} (hr : s.transAt i = some r)
    (hopen : r.state ≠ .answered) : ((s.dequeue r.tap i).freeRecord i).Queued := by
  obtain ⟨tr, w, h⟩ := (s.dequeue r.tap i).freeRecord_changes i
  refine hs.leave hr hopen (fun j hj => (s.dequeue r.tap i).transAt_freeRecord_ne hj) (fun u => ?_)
    (.inl ⟨State.transAt_freeRecord_self _ i, ?_⟩)
  · rw [h]
    rfl
  · rw [h]
    rfl

theorem State.Queued.setTrans {s : State} (hs : s.Queued) {i : Fin 16} {r x : TransRecord} (hr : s.transAt i = some r)
    (hopen : r.state ≠ .answered) (htap : x.tap = r.tap) (hx : x.state ≠ .answered)
    (ho : x.orphan = true → x.state = .issued) : (s.setTrans i (some x)).Queued := by
  refine ⟨fun u j => (hs.queue u j).trans ?_, fun j => (hs.responses j).trans ?_, hs.once, fun j q hq hoq => ?_, hs.nodup,
    hs.length⟩
  · by_cases hj : j = i
    · subst hj
      simp [hr, hopen, hx, htap]
    · rw [s.transAt_setTrans_ne hj]
  · by_cases hj : j = i
    · subst hj
      simp [hr, hopen, hx]
    · rw [s.transAt_setTrans_ne hj]
  · by_cases hj : j = i
    · subst hj
      rw [State.transAt_setTrans_self] at hq
      cases hq
      exact ho hoq
    · exact hs.orphan j q (by rwa [s.transAt_setTrans_ne hj] at hq) hoq

theorem State.Queued.modTap {s : State} (hs : s.Queued) {k : Fin 4} {f : Tap → Tap}
    (hf : (f (s.tap k)).queue = (s.tap k).queue) : (s.modTap k f).Queued := by
  refine hs.congr (fun _ => rfl) rfl fun u => ?_
  by_cases h : u = k
  · subst h
    rw [State.tap_modTap_self, hf]
  · rw [s.tap_modTap_ne h]

/-! ### Events of one tap -/

/-- From `s` to `t` the taps other than k, and the records that name them, are kept. -/
structure State.TouchesTap (k : Fin 4) (s t : State) : Prop where
  low : t.resetLow = s.resetLow
  tap : ∀ u, u ≠ k → t.tap u = s.tap u
  record : ∀ j r, s.transAt j = some r → r.tap ≠ k → t.transAt j = some r

theorem State.TouchesTap.refl (k : Fin 4) (s : State) : s.TouchesTap k s := ⟨rfl, fun _ _ => rfl, fun _ _ h _ => h⟩

theorem State.TouchesTap.trans {k : Fin 4} {s t u : State} (h : s.TouchesTap k t) (h' : t.TouchesTap k u) :
    s.TouchesTap k u :=
  ⟨h'.low.trans h.low, fun v hv => (h'.tap v hv).trans (h.tap v hv),
    fun j r hr hk => h'.record j r (h.record j r hr hk) hk⟩

theorem State.touchesTap_modTap (s : State) (k : Fin 4) (f : Tap → Tap) : s.TouchesTap k (s.modTap k f) :=
  ⟨rfl, fun _ hu => s.tap_modTap_ne hu f, fun _ _ h _ => h⟩

theorem State.touchesTap_setTrans {s : State} {i : Fin 16} {r : TransRecord} (hr : s.transAt i = some r)
    (o : Option TransRecord) : s.TouchesTap r.tap (s.setTrans i o) := by
  refine ⟨rfl, fun _ _ => rfl, fun j q hq hk => ?_⟩
  rwa [s.transAt_setTrans_ne]
  rintro rfl
  cases hr.symm.trans hq
  exact hk rfl

theorem State.touchesTap_answer {s : State} {i : Fin 16} {r : TransRecord} (hr : s.transAt i = some r) (code : Code)
    (data : Option (List Word)) : s.TouchesTap r.tap (s.answer i code data) := by
  refine ⟨s.resetLow_answer i code data, fun u hu => ?_, fun j q hq hk => ?_⟩
  · rw [State.tap_answer hr, State.dequeue, s.tap_modTap_ne hu]
  · rwa [s.transAt_answer_ne]
    rintro rfl
    cases hr.symm.trans hq
    exact hk rfl

theorem State.touchesTap_free {s : State} {i : Fin 16} {r : TransRecord} (hr : s.transAt i = some r) :
    s.TouchesTap r.tap ((s.dequeue r.tap i).freeRecord i) := by
  obtain ⟨tr, w, h⟩ := (s.dequeue r.tap i).freeRecord_changes i
  refine ⟨by rw [h]; rfl, fun u hu => ?_, fun j q hq hk => ?_⟩
  · rw [h]
    exact s.tap_modTap_ne hu fun p => { p with queue := p.queue.erase i }
  · refine (State.transAt_freeRecord_ne _ ?_).trans hq
    rintro rfl
    cases hr.symm.trans hq
    exact hk rfl

/-- An event of tap k keeps the invariant if it keeps the queues and leaves tap k in agreement. -/
theorem State.Placed.of_touchesTap {o : Option (Fin 4)} {k : Fin 4} {s t : State} (hs : s.Placed o)
    (h : s.TouchesTap k t) (hq : t.Queued) (hk : (t.tap k).Agrees t.resetLow t.transAt (decide (o = some k))) :
    t.Placed o := by
  refine ⟨hq, fun u => ?_⟩
  by_cases hu : u = k
  · exact hu ▸ hk
  · rw [h.tap u hu, h.low]
    refine (hs.2 u).congr rfl fun i hi => ?_
    obtain ⟨r, hr, htap, -⟩ := hs.1.record hi
    rw [h.record i r hr (htap ▸ hu), hr]

/-- A change of a tap's own fields, its queue kept. -/
theorem State.Placed.modTap {o : Option (Fin 4)} {k : Fin 4} {s : State} {f : Tap → Tap} (hs : s.Placed o)
    (hf : (f (s.tap k)).queue = (s.tap k).queue)
    (hk : (f (s.tap k)).Agrees s.resetLow s.transAt (decide (o = some k))) : (s.modTap k f).Placed o :=
  hs.of_touchesTap (s.touchesTap_modTap k f) (hs.1.modTap hf) (by rw [State.tap_modTap_self]; exact hk)

/-- A change of fields that the invariant does not speak of. -/
theorem State.Placed.modTap_service {o : Option (Fin 4)} {k : Fin 4} {s : State} {f : Tap → Tap} (hs : s.Placed o)
    (hf : (f (s.tap k)).service = (s.tap k).service) : (s.modTap k f).Placed o :=
  hs.modTap (congrArg (fun x => x.2.2.1) hf) ((hs.2 k).congr hf fun _ _ => rfl)

/-- The records behind the head of a tap's queue are other records than it, and QUEUED. -/
theorem State.Placed.behind {o : Option (Fin 4)} {s : State} (hs : s.Placed o) {k : Fin 4} {i : Fin 16}
    {rest : List (Fin 16)} (hq : (s.tap k).queue = i :: rest) {j : Fin 16} (hj : j ∈ rest) :
    j ≠ i ∧ ∃ r, s.transAt j = some r ∧ r.tap = k ∧ r.state = .queued := by
  have hmem : j ∈ (s.tap k).queue := by simp [hq, hj]
  obtain ⟨r, hr, hk, -⟩ := hs.1.record hmem
  refine ⟨?_, r, hr, hk, (hs.2 k).behind j r (by simpa [hq] using hj) hr⟩
  rintro rfl
  have hn := hs.1.nodup k
  rw [hq] at hn
  exact (List.nodup_cons.1 hn).1 hj

/-- The head record of tap k is written over, and the tap is given the state that fits. -/
theorem State.Placed.serveHead {o : Option (Fin 4)} {k : Fin 4} {s : State} {i : Fin 16} {rest : List (Fin 16)}
    {r x : TransRecord} {f : Tap → Tap} (hs : s.Placed o) (hq : (s.tap k).queue = i :: rest) (hr : s.transAt i = some r)
    (htap : x.tap = r.tap) (hx : x.state ≠ .answered) (ho : x.orphan = true → x.state = .issued)
    (hf : (f (s.tap k)).queue = (s.tap k).queue)
    (hk : ∀ rec : Fin 16 → Option TransRecord, rec i = some x →
      (∀ j q, j ∈ rest → rec j = some q → q.state = .queued) →
      (f (s.tap k)).Agrees s.resetLow rec (decide (o = some k))) :
    ((s.setTrans i (some x)).modTap k f).Placed o := by
  obtain ⟨rfl, hopen⟩ := hs.1.of_mem (k := k) (by simp [hq]) hr
  have hqueued : (s.setTrans i (some x)).Queued := hs.1.setTrans hr hopen htap hx ho
  refine hs.of_touchesTap ((State.touchesTap_setTrans hr _).trans (State.touchesTap_modTap _ _ f))
    (hqueued.modTap (by simpa using hf)) ?_
  rw [State.tap_modTap_self]
  refine hk _ (State.transAt_setTrans_self s i _) fun j q hj hjq => ?_
  obtain ⟨hne, y, hy, -, hst⟩ := hs.behind hq hj
  rw [State.transAt_modTap, s.transAt_setTrans_ne hne, hy] at hjq
  cases hjq
  exact hst

/-! ### Issue, hold and re-issue (R72 to R77, R84, R106) -/

/-- A tap to which the request of its head record has been presented (R72, R191). -/
theorem Tap.agrees_presented {low released : Bool} {rec : Fin 16 → Option TransRecord} {p : Tap} {i : Fin 16}
    {rest : List (Fin 16)} {x : TransRecord} (hst : p.state = .issued) (hqueue : p.queue = i :: rest)
    (hi : rec i = some x) (hx : x.state = .issued) (hbehind : ∀ j q, j ∈ rest → rec j = some q → q.state = .queued)
    (hpresented : ∃ a, p.presented =
      some { kind := x.kind, localAddress := a, length := x.length, data := x.writeData.getD [] })
    (hack : p.ackTimer.isSome = true) (hretry : p.retryTimer = none) (hdriving : p.driving = true) :
    p.Agrees low rec released where
  pending _ := hst
  behind := by simpa [hqueue] using hbehind
  head := by
    simp only [Tap.HeadAgrees, hst]
    exact ⟨i, x, by simp [hqueue], hi, hx, fun _ => hpresented⟩
  ack := by simp [hack, hst]
  retry := by simp [hretry, hst]
  presented _ := by
    obtain ⟨a, ha⟩ := hpresented
    simp [ha, hst]
  driving _ := hst
  rises _ := ⟨hst, .inl hdriving⟩

/-- The head record of a tap that serves no other is issued, or issued again, without its hold mark or with it. -/
theorem State.Placed.present {o : Option (Fin 4)} {k : Fin 4} {s : State} {i : Fin 16} {rest : List (Fin 16)}
    {r x : TransRecord} (hs : s.Placed o) (hq : (s.tap k).queue = i :: rest) (hr : s.transAt i = some r)
    (htap : x.tap = r.tap) : (s.present k i x).Placed o :=
  hs.serveHead (x := { x with state := .issued, waitRemaining := none }) hq hr htap (by simp) (fun _ => rfl) rfl
    fun _ hi hbehind => Tap.agrees_presented rfl hq hi rfl hbehind ⟨_, rfl⟩ rfl rfl rfl

theorem State.Placed.issue {o : Option (Fin 4)} {k : Fin 4} {s : State} {i : Fin 16} {rest : List (Fin 16)}
    {r x : TransRecord} (hs : s.Placed o) (hq : (s.tap k).queue = i :: rest) (hr : s.transAt i = some r)
    (htap : x.tap = r.tap) : (s.issue k i x).Placed o :=
  (hs.present hq hr htap).modTap_service rfl

theorem State.Placed.reissue {o : Option (Fin 4)} {s : State} (hs : s.Placed o) (k : Fin 4) : (s.reissue k).Placed o := by
  unfold State.reissue
  split
  · exact hs
  next i rest hq =>
    split
    · exact hs
    next r hr => exact (hs.present hq hr rfl).modTap_service rfl

/-- A cause of an attention flag leaves records and taps (R114). -/
theorem State.Placed.raiseFlag {o : Option (Fin 4)} {s : State} (hs : s.Placed o) (n : Nat) :
    (s.raiseFlag n).Placed o := by
  obtain ⟨a, h⟩ := s.raiseFlag_changes n
  rw [h]
  exact hs.congr rfl (fun _ => rfl) rfl fun _ => rfl

/-- The head record of an IDLE tap, no orphan, is held (R84). -/
theorem State.Placed.enterHeld {o : Option (Fin 4)} {k : Fin 4} {s : State} {i : Fin 16} {rest : List (Fin 16)}
    {r : TransRecord} (hs : s.Placed o) (hst : (s.tap k).state = .idle) (hq : (s.tap k).queue = i :: rest)
    (hr : s.transAt i = some r) : (s.enterHeld k i r).Placed o := by
  have hk := hs.2 k
  have hqueued : r.state = .queued := hk.queued_of_idle hst (by simp [hq]) hr
  have ho : r.orphan ≠ true := fun ho => by simp [hs.1.orphan i r hr ho] at hqueued
  refine (hs.serveHead (x := { r with state := .held }) hq hr rfl (by simp) (fun h => absurd h ho) rfl
    fun rec hi hbehind => ?_).raiseFlag _
  have hw : ({ s.tap k with state := .held } : Tap).Withdrawn s.resetLow :=
    (hk.withdrawn (by simp [hst])).of_same rfl rfl rfl rfl
  refine hw.agrees (hk.not_pending (by simp [hst])) (by simp) ?_ ?_ ?_
  · simp [hk.retryTimer (by simp [hst])]
  · exact ⟨i, _, by simp [hq], hi, rfl⟩
  · simpa [hq] using hbehind

/-- An IDLE tap examines its head (R74). -/
theorem State.Placed.examine {o : Option (Fin 4)} {k : Fin 4} {s : State} (hs : s.Placed o)
    (hst : (s.tap k).state = .idle) : (s.examine k).Placed o := by
  unfold State.examine
  split
  · exact hs
  next i rest hq =>
    split
    · exact hs
    next r hr =>
      split
      · exact hs.enterHeld hst hq hr
      · exact hs.issue hq hr rfl

/-! ### The end of an exchange (R51, R64, R76, R78, R89) -/

/-- In `e` the head of tap k of `s` has ended: the request is withdrawn, no retry is due, and every record left in the
queue is QUEUED. The tap's state is yet to follow. -/
structure State.HeadEnded (o : Option (Fin 4)) (k : Fin 4) (s e : State) : Prop where
  placed : s.Placed o
  touches : s.TouchesTap k e
  queued : e.Queued
  withdrawn : (e.tap k).Withdrawn e.resetLow
  retry : (e.tap k).retryTimer = none
  waiting : ∀ j r, j ∈ (e.tap k).queue → e.transAt j = some r → r.state = .queued

/-- The tap goes to IDLE (R76). -/
theorem State.HeadEnded.idle {o : Option (Fin 4)} {k : Fin 4} {s e : State} (h : s.HeadEnded o k e)
    (hp : (e.tap k).disablePending = false) : (e.modTap k fun p => { p with state := .idle }).Placed o := by
  refine h.placed.of_touchesTap (h.touches.trans (e.touchesTap_modTap k _)) (h.queued.modTap rfl) ?_
  rw [State.tap_modTap_self]
  have hw : ({ e.tap k with state := .idle } : Tap).Withdrawn e.resetLow := h.withdrawn.of_same rfl rfl rfl rfl
  exact hw.agrees_idle hp rfl h.retry h.waiting

/-- All records of a queue, none an orphan, are answered: the queue is empty, and the table and the queues fit. -/
theorem State.Queued.answerAll {k : Fin 4} (code : Code) {l : List (Fin 16)} : ∀ {s : State}, s.Queued →
    (s.tap k).queue = l → (∀ i r, i ∈ l → s.transAt i = some r → r.orphan = false) →
    (s.answerAll l code).Queued ∧ s.TouchesTap k (s.answerAll l code) := by
  unfold State.answerAll
  induction l with
  | nil => exact fun hs _ _ => ⟨hs, .refl k _⟩
  | cons i rest ih =>
    intro s hs hq ho
    obtain ⟨r, hr, rfl, hopen⟩ := hs.record (k := k) (i := i) (by simp [hq])
    have hn := hs.nodup r.tap
    rw [hq] at hn
    have hrest : ((s.answer i code none).tap r.tap).queue = rest := by
      rw [State.tap_answer hr, s.queue_dequeue, if_pos rfl, hq, List.erase_cons_head]
    obtain ⟨hqueued, htouch⟩ := ih (hs.answer hr hopen (ho i r (by simp) hr) code none) hrest fun j q hj hjq => by
      have hne : j ≠ i := fun e => (List.nodup_cons.1 hn).1 (e ▸ hj)
      exact ho j q (by simp [hj]) (by rwa [s.transAt_answer_ne hne] at hjq)
    exact ⟨hqueued, (State.touchesTap_answer hr code none).trans htouch⟩

/-- All records of tap k are answered, and the tap goes to DISABLED or FAULTED (R78, R87, R89). -/
theorem State.Placed.emptyTap {o : Option (Fin 4)} {k : Fin 4} {s e : State} {f : Tap → Tap} (hs : s.Placed o)
    (htouch : s.TouchesTap k e) (he : e.Queued)
    (ho : ∀ i r, i ∈ (e.tap k).queue → e.transAt i = some r → r.orphan = false) (code : Code)
    (hqueue : ∀ p, (f p).queue = p.queue)
    (hk : (f { e.tap k with queue := [] }).Agrees e.resetLow e.transAt (decide (o = some k))) :
    ((e.answerAll (e.tap k).queue code).modTap k f).Placed o := by
  obtain ⟨hqueued, htouch'⟩ := he.answerAll code rfl ho
  obtain ⟨tr, heq, -⟩ := State.answerAll_queue (s := e) rfl (he.nodup k) (fun i hi => by
    obtain ⟨r, hr, hrk, -⟩ := he.record hi
    exact ⟨r, hr, hrk⟩) code
  have htap : (e.answerAll (e.tap k).queue code).tap k = { e.tap k with queue := [] } := by
    rw [heq]
    simp [State.tap]
  refine hs.of_touchesTap (htouch.trans (htouch'.trans (State.touchesTap_modTap _ k f)))
    (hqueued.modTap (hqueue _)) ?_
  rw [State.tap_modTap_self, htap, State.resetLow_modTap, htouch'.low]
  exact hk.congr rfl fun i hi => by simp [hqueue] at hi

/-- What follows the end of the head when every record behind it is answered (R78, R89). -/
theorem State.HeadEnded.empty {o : Option (Fin 4)} {k : Fin 4} {s e : State} {f : Tap → Tap} (h : s.HeadEnded o k e)
    (code : Code) (hqueue : ∀ p, (f p).queue = p.queue)
    (hk : (f { e.tap k with queue := [] }).Agrees e.resetLow e.transAt (decide (o = some k))) :
    ((e.answerAll (e.tap k).queue code).modTap k f).Placed o := by
  refine h.placed.emptyTap h.touches h.queued (fun i r hi hr => ?_) code hqueue hk
  have hst := h.waiting i r hi hr
  cases ho : r.orphan
  · rfl
  · simp [h.queued.orphan i r hr ho] at hst

/-- The end of a management operation leaves transaction records and taps (R131). -/
theorem State.Placed.finishMgmt {o : Option (Fin 4)} {s : State} (hs : s.Placed o) (i : Fin 3) (code : Code)
    (result : List Word) : (s.finishMgmt i code result).Placed o := by
  obtain ⟨m, q, p, h⟩ := s.finishMgmt_changes i code result
  rw [h]
  exact hs.congr rfl (fun _ => rfl) rfl fun _ => rfl

theorem State.Placed.finishExecuting {o : Option (Fin 4)} {s : State} (hs : s.Placed o) (op : Op) (code : Code)
    (result : List Word) : (s.finishExecuting op code result).Placed o := by
  obtain ⟨m, q, p, h⟩ := s.finishExecuting_changes op code result
  rw [h]
  exact hs.congr rfl (fun _ => rfl) rfl fun _ => rfl

theorem State.HeadEnded.completeDisable {o : Option (Fin 4)} {k : Fin 4} {s e : State} (h : s.HeadEnded o k e) :
    (e.completeDisable k).Placed o := by
  refine (h.empty (f := fun p => { p with state := .disabled, disablePending := false }) .tapDisabled (fun _ => rfl)
    ?_).finishExecuting _ _ _
  have hw : ({ e.tap k with queue := [], state := .disabled, disablePending := false } : Tap).Withdrawn e.resetLow :=
    h.withdrawn.of_same rfl rfl rfl rfl
  exact hw.agrees_empty rfl (.inl rfl) h.retry rfl

theorem State.HeadEnded.leaveIssued {o : Option (Fin 4)} {k : Fin 4} {s e : State} (h : s.HeadEnded o k e) :
    (e.leaveIssued k).Placed o := by
  unfold State.leaveIssued
  split
  · exact h.completeDisable
  next hp => exact h.idle (by simpa using hp)

theorem State.HeadEnded.faultTap {o : Option (Fin 4)} {k : Fin 4} {s e : State} (h : s.HeadEnded o k e) :
    (e.faultTap k).Placed o := by
  unfold State.faultTap
  split
  · exact h.completeDisable
  next hp =>
    refine h.empty (f := fun p => { p with state := .faulted }) .tapFault (fun _ => rfl) ?_
    have hw : ({ e.tap k with queue := [], state := .faulted } : Tap).Withdrawn e.resetLow :=
      h.withdrawn.of_same rfl rfl rfl rfl
    exact hw.agrees_empty (by simpa using hp) (.inr rfl) h.retry rfl

/-- The head record of tap k ends, answered or freed, once the tap is withdrawn (R51, R64). -/
theorem State.Placed.endIssued {o : Option (Fin 4)} {k : Fin 4} {s : State} {i : Fin 16} {rest : List (Fin 16)}
    {r : TransRecord} {f : Tap → Tap} (hs : s.Placed o) (hq : (s.tap k).queue = i :: rest)
    (hr : s.transAt i = some r) (hqueue : (f (s.tap k)).queue = (s.tap k).queue)
    (hw : (f (s.tap k)).Withdrawn s.resetLow) (hretry : (f (s.tap k)).retryTimer = none) (code : Code)
    (data : Option (List Word)) : s.HeadEnded o k ((s.modTap k f).endIssued k i r code data) := by
  obtain ⟨rfl, hopen⟩ := hs.1.of_mem (k := k) (by simp [hq]) hr
  have hclosed : (s.modTap r.tap f).Queued := hs.1.modTap hqueue
  have hrc : (s.modTap r.tap f).transAt i = some r := hr
  have htouch : s.TouchesTap r.tap (s.modTap r.tap f) := s.touchesTap_modTap r.tap f
  have hends : (s.modTap r.tap f).TouchesTap r.tap ((s.modTap r.tap f).endIssued r.tap i r code data)
      ∧ ((s.modTap r.tap f).endIssued r.tap i r code data).Queued
      ∧ ((s.modTap r.tap f).endIssued r.tap i r code data).tap r.tap = ((s.modTap r.tap f).dequeue r.tap i).tap r.tap
      ∧ ∀ j, j ≠ i → ((s.modTap r.tap f).endIssued r.tap i r code data).transAt j = s.transAt j := by
    unfold State.endIssued
    split
    · refine ⟨State.touchesTap_free hrc, hclosed.free hrc hopen, ?_, fun j hj => State.transAt_freeRecord_ne _ hj⟩
      obtain ⟨tr, w, h⟩ := ((s.modTap r.tap f).dequeue r.tap i).freeRecord_changes i
      rw [h]
      rfl
    next ho =>
      exact ⟨State.touchesTap_answer hrc code data, hclosed.answer hrc hopen (by simpa using ho) code data,
        State.tap_answer hrc code data r.tap, fun j hj => State.transAt_answer_ne _ hj code data⟩
  obtain ⟨htouch', hqueued, htap, hne⟩ := hends
  have hself : ((s.modTap r.tap f).endIssued r.tap i r code data).tap r.tap = { f (s.tap r.tap) with queue := rest } := by
    rw [htap, State.dequeue, State.tap_modTap_self, State.tap_modTap_self, hqueue, hq, List.erase_cons_head]
  refine ⟨hs, htouch.trans htouch', hqueued, ?_, ?_, fun j q hj hjq => ?_⟩
  · rw [hself, htouch'.low]
    exact hw.of_same rfl rfl rfl rfl
  · rw [hself]
    exact hretry
  · rw [hself] at hj
    obtain ⟨hji, x, hx, -, hst⟩ := hs.behind hq hj
    rw [hne j hji, hx] at hjq
    cases hjq
    exact hst

/-! ### Acknowledges (R73, R76, R79, R191) -/

/-- A RETRY sends the issued record, no orphan, and its tap to RETRY_WAIT (R76). -/
theorem State.Placed.enterRetryWait {o : Option (Fin 4)} {k : Fin 4} {s : State} {i : Fin 16} {rest : List (Fin 16)}
    {r : TransRecord} (hs : s.Placed o) (hq : (s.tap k).queue = i :: rest) (hr : s.transAt i = some r)
    (ho : r.orphan = false) (hp : (s.tap k).disablePending = false) :
    ((s.closeExchange k).enterRetryWait k i r).Placed o := by
  have h : ((s.setTrans i (some { r with state := .retryWait, retryCount := r.retryCount + 1 })).modTap k fun p =>
      { p.withdraw with state := .retryWait, retryTimer := some s.mgmt.params.retryDelay }).Placed o := by
    refine hs.serveHead hq hr rfl (by simp) (fun h => by simp [ho] at h) rfl fun rec hi hbehind => ?_
    have hw : ({ (s.tap k).withdraw with
        state := .retryWait, retryTimer := some s.mgmt.params.retryDelay } : Tap).Withdrawn s.resetLow :=
      ((s.tap k).withdrawn_withdraw s.resetLow).of_same rfl rfl rfl rfl
    refine hw.agrees hp (by simp) (by simp) ⟨i, _, ?_, hi, rfl⟩ ?_
    · exact congrArg List.head? hq
    · intro j q hj
      have hj' : j ∈ (s.tap k).queue.tail := hj
      exact hbehind j q (by simpa [hq] using hj')
  have he : (s.closeExchange k).enterRetryWait k i r
      = (s.setTrans i (some { r with state := .retryWait, retryCount := r.retryCount + 1 })).modTap k fun p =>
        { p.withdraw with state := .retryWait, retryTimer := some s.mgmt.params.retryDelay } := by
    simp [State.enterRetryWait, State.closeExchange, State.modTap, State.setTrans]
  rw [he]
  exact h

theorem State.Placed.takeAck {o : Option (Fin 4)} {k : Fin 4} {s : State} (hs : s.Placed o)
    (hst : (s.tap k).state = .issued) (kind : AckKind) (words : List Word) : (s.takeAck k kind words).Placed o := by
  obtain h | ⟨i, rest, r, hq, hr, ⟨code, data, h⟩ | ⟨ho, hp, h⟩⟩ := s.takeAck_cases k kind words <;> rw [h]
  · exact hs
  · exact (hs.endIssued hq hr rfl (Tap.withdrawn_withdraw _ _) ((hs.2 k).retryTimer (by simp [hst])) code
      data).leaveIssued
  · exact hs.enterRetryWait hq hr ho hp

theorem State.Placed.takeStrobe {o : Option (Fin 4)} {s : State} (hs : s.Placed o) (k : Fin 4) (a : BitVec 2) :
    (s.takeStrobe k a).Placed o := by
  obtain h | ⟨n, h⟩ | ⟨hst, kind, h⟩ := s.takeStrobe_cases k a <;> rw [h]
  · exact hs.modTap_service rfl
  · exact hs.modTap_service rfl
  · exact hs.takeAck hst kind []

/-- An acknowledge that is taken leaves ISSUED, or finds no record to take it (R76). -/
theorem State.state_takeAck (s : State) (k : Fin 4) (kind : AckKind) (words : List Word) :
    s.takeAck k kind words = s ∨ ((s.takeAck k kind words).tap k).state ≠ .issued := by
  have hleave : ∀ e : State, ((e.leaveIssued k).tap k).state ≠ .issued := by
    intro e
    unfold State.leaveIssued
    split
    · unfold State.completeDisable
      obtain ⟨m, q, p, h⟩ := State.finishExecuting_changes ((e.answerAll (e.tap k).queue .tapDisabled).modTap k
        fun p => { p with state := .disabled, disablePending := false }) .tapDisable .ok [one 1]
      rw [h]
      have hself := (e.answerAll (e.tap k).queue .tapDisabled).tap_modTap_self k
        fun p => { p with state := .disabled, disablePending := false }
      exact fun hst => TapState.noConfusion ((congrArg Tap.state hself).symm.trans hst)
    · simp
  obtain h | ⟨i, rest, r, -, -, ⟨code, data, h⟩ | ⟨-, -, h⟩⟩ := s.takeAck_cases k kind words
  · exact .inl h
  · rw [h]
    exact .inr (hleave _)
  · rw [h]
    exact .inr (by simp [State.enterRetryWait])

/-- A rise of TtACK waits while the part drives TtD, and is taken otherwise (R191). -/
theorem State.Placed.riseOfAck {o : Option (Fin 4)} {s : State} (hs : s.Placed o) (k : Fin 4) (a : BitVec 2) :
    (s.riseOfAck k a).Placed o := by
  unfold State.riseOfAck
  split
  next hd =>
    have hk := hs.2 k
    refine hs.modTap rfl ⟨hk.pending, hk.behind, hk.head, hk.ack, hk.retry, hk.presented, hk.driving, fun _ => ?_⟩
    exact ⟨hk.driving hd, .inl hd⟩
  · exact hs.takeStrobe k a

/-- A tap that has released TtD takes the rises that waited. One that ends the exchange takes the others with it, so none
is left waiting (R191). -/
theorem State.Placed.takeRises (k : Fin 4) (l : List (BitVec 2)) : ∀ {s : State}, s.Placed (some k) →
    (s.tap k).rises = l ∨ (s.tap k).state ≠ .issued → (s.takeRises k l).Placed none := by
  have hclose : ∀ {s : State}, s.Placed (some k) → (s.tap k).rises = [] → s.Placed none := by
    intro s hs hr
    refine ⟨hs.1, fun u => ?_⟩
    have hu := hs.2 u
    refine ⟨hu.pending, hu.behind, hu.head, hu.ack, hu.retry, hu.presented, hu.driving, fun h => ?_⟩
    have hne : ¬ some k = some u := by
      rintro ⟨⟩
      exact h hr
    simpa [hne] using hu.rises h
  have hidle : ∀ {s : State}, s.Placed (some k) → (s.tap k).state ≠ .issued → s.Placed none :=
    fun hs hst => hclose hs ((hs.2 k).withdrawn hst).rises
  induction l with
  | nil => exact fun hs h => h.elim (hclose hs) (hidle hs)
  | cons a rest ih =>
    intro s hs h
    unfold State.takeRises
    split
    next hst =>
      have hk := hs.2 k
      have hput : (s.modTap k fun p => { p with rises := rest }).Placed (some k) :=
        hs.modTap rfl ⟨hk.pending, hk.behind, hk.head, hk.ack, hk.retry, hk.presented, hk.driving,
          fun _ => ⟨hst, .inr (by simp)⟩⟩
      refine ih (hput.takeStrobe k a) ?_
      obtain h | ⟨n, h⟩ | ⟨-, kind, h⟩ := (s.modTap k fun p => { p with rises := rest }).takeStrobe_cases k a <;> rw [h]
      · exact .inl (by simp [State.lateAck])
      · exact .inl (by simp [State.startTransfer])
      · obtain h | h := (s.modTap k fun p => { p with rises := rest }).state_takeAck k kind []
        · rw [h]
          exact .inl (by simp)
        · exact .inr h
    next hst => exact hidle hs hst

/-- The part releases TtD and takes the rises that waited for it (R191). -/
theorem State.Placed.releaseData {s : State} (hs : s.Placed none) (k : Fin 4) : (s.releaseData k).Placed none := by
  unfold State.releaseData
  split
  next hd =>
    refine State.Placed.takeRises k _ (s := s.modTap k fun p => { p with driving := false }) ⟨hs.1.modTap rfl, fun u => ?_⟩
      (.inl (by simp))
    have hu := hs.2 u
    by_cases h : u = k
    · subst h
      rw [State.tap_modTap_self]
      exact ⟨hu.pending, hu.behind, hu.head, hu.ack, hu.retry, hu.presented, fun h => by simp at h,
        fun hr => ⟨(hu.rises hr).1, .inr (by simp)⟩⟩
    · rw [s.tap_modTap_ne h]
      have hne : decide (some k = some u) = decide ((none : Option (Fin 4)) = some u) := by simp [Ne.symm h]
      exact hne ▸ hu
  · exact hs

theorem State.Placed.takeDone {o : Option (Fin 4)} {s : State} (hs : s.Placed o) (k : Fin 4) (x : Transfer) :
    (s.takeDone k x).Placed o := by
  unfold State.takeDone
  split
  next hst => exact hs.takeAck hst _ _
  · exact hs.modTap_service rfl

theorem State.Placed.takeDones {o : Option (Fin 4)} (k : Fin 4) (l : List Transfer) : ∀ {s : State}, s.Placed o →
    (l.foldl (fun c x => c.takeDone k x) s).Placed o := by
  induction l with
  | nil => exact id
  | cons x rest ih => exact fun hs => ih (hs.takeDone k x)

/-- A data byte: the transfers it ends end, and an IDLE tap then examines its head (R73, R74, R79, R191). -/
theorem State.Placed.takeByte {o : Option (Fin 4)} {s : State} (hs : s.Placed o) (k : Fin 4) (b : Byte) :
    (s.takeByte k b).Placed o := by
  have hdones : ∀ (l going : List Transfer),
      (l.foldl (fun c x => c.takeDone k x) (s.modTap k fun p => { p with transfers := going })).Placed o :=
    fun l _ => State.Placed.takeDones k l (hs.modTap_service rfl)
  unfold State.takeByte
  dsimp only
  split
  next h =>
    refine (hdones _ _).examine ?_
    rw [State.takeDones_late k _ _ (by simp [h.1])]
    simpa using h.1
  · exact hdones _ _

/-! ### Timers (R78, R83, R89) -/

theorem State.Placed.timeOut {o : Option (Fin 4)} {k : Fin 4} {s : State} (hs : s.Placed o)
    (hst : (s.tap k).state = .issued) : (s.timeOut k).Placed o := by
  unfold State.timeOut
  split
  · exact hs
  next i rest hq =>
    split
    · exact hs
    next r hr =>
      have hclosed : (s.closeExchange k).modTap k (fun p =>
            { p with counters := { p.counters with timeouts := bump p.counters.timeouts } })
          = s.modTap k fun p => { p.withdraw with
              counters := { p.withdraw.counters with timeouts := bump p.withdraw.counters.timeouts } } := by
        simp [State.closeExchange, State.modTap]
      dsimp only
      rw [hclosed]
      refine (State.HeadEnded.faultTap (hs.endIssued hq hr rfl ?_ ((hs.2 k).retryTimer (by simp [hst])) .tapTimeout
        none)).raiseFlag _
      exact ((s.tap k).withdrawn_withdraw s.resetLow).of_same rfl rfl rfl rfl

theorem mem_tail_of_mem_tail_erase {α : Type} [DecidableEq α] {l : List α} {a b : α} (h : b ∈ (l.erase a).tail) :
    b ∈ l.tail := by
  cases l with
  | nil => simp at h
  | cons c rest =>
    by_cases hc : c = a
    · subst hc
      rw [List.erase_cons_head] at h
      exact List.mem_of_mem_tail h
    · rw [List.erase_cons_tail (by simpa using hc)] at h
      exact List.mem_of_mem_erase h

/-- A QUEUED record leaves a tap's queue: the tap agrees with the records that are left (R83). -/
theorem Tap.Agrees.erase {low released : Bool} {rec rec' : Fin 16 → Option TransRecord} {p : Tap} {i : Fin 16}
    {r : TransRecord} (h : p.Agrees low rec released) (hn : p.queue.Nodup) (hr : rec i = some r)
    (hqueued : r.state = .queued) (hrec : ∀ j, j ≠ i → rec' j = rec j) :
    ({ p with queue := p.queue.erase i } : Tap).Agrees low rec' released := by
  have hleft : ∀ {j}, j ∈ p.queue.erase i → rec' j = rec j := fun hj => hrec _ (hn.mem_erase_iff.1 hj).1
  have hserved : ∀ {j x}, p.queue.head? = some j → rec j = some x → x.state ≠ .queued →
      (p.queue.erase i).head? = some j ∧ rec' j = some x := by
    intro j x hj hx hst
    have hne : j ≠ i := by
      rintro rfl
      cases hr.symm.trans hx
      exact hst hqueued
    exact ⟨head?_erase_of_ne hj hne, (hrec j hne).trans hx⟩
  refine ⟨h.pending, fun j x hj hx => ?_, ?_, h.ack, h.retry, h.presented, h.driving, h.rises⟩
  · exact h.behind j x (mem_tail_of_mem_tail_erase hj) ((hleft (List.mem_of_mem_tail hj)) ▸ hx)
  · have hhead := h.head
    cases hst : p.state <;> simp only [Tap.HeadAgrees, hst] at hhead ⊢
    case disabled | faulted => simp [hhead]
    case idle =>
      intro j x hj hx
      have hmem := List.mem_of_head? hj
      exact h.queued_of_idle hst (List.mem_of_mem_erase hmem) (hleft hmem ▸ hx)
    case issued =>
      obtain ⟨j, x, hj, hx, hxs, hreq⟩ := hhead
      obtain ⟨hj', hx'⟩ := hserved hj hx (by simp [hxs])
      exact ⟨j, x, hj', hx', hxs, hreq⟩
    case retryWait | held =>
      obtain ⟨j, x, hj, hx, hxs⟩ := hhead
      obtain ⟨hj', hx'⟩ := hserved hj hx (by simp [hxs])
      exact ⟨j, x, hj', hx', hxs⟩

/-- The wait of a QUEUED record is over: it leaves its place in the queue (R83). -/
theorem State.Placed.expireWait {o : Option (Fin 4)} {s : State} (hs : s.Placed o) {i : Fin 16} {r : TransRecord}
    (hr : s.transAt i = some r) (hqueued : r.state = .queued) : (s.expireWait i r.tap).Placed o := by
  have ho : r.orphan = false := by
    cases h : r.orphan
    · rfl
    · simp [hs.1.orphan i r hr h] at hqueued
  have hanswered : (s.answer i .waitExpired none).Placed o := by
    refine hs.of_touchesTap (State.touchesTap_answer hr _ _) (hs.1.answer hr (by simp [hqueued]) ho _ _) ?_
    rw [State.tap_answer hr, State.dequeue, State.tap_modTap_self, s.resetLow_answer]
    exact (hs.2 r.tap).erase (hs.1.nodup r.tap) hr hqueued fun j hj => s.transAt_answer_ne hj _ _
  exact hanswered.modTap_service rfl

/-! ### The operations on a tap (R85 to R92, R106, R107) -/

theorem State.Placed.tapEnable {o : Option (Fin 4)} {k : Fin 4} {s : State} (hs : s.Placed o)
    (hst : (s.tap k).state = .disabled ∨ (s.tap k).state = .faulted) :
    (s.modTap k fun p => { p with state := .idle }).Placed o := by
  have hk := hs.2 k
  have hempty : (s.tap k).queue = [] := by
    have hhead := hk.head
    obtain hst | hst := hst <;> simpa only [Tap.HeadAgrees, hst] using hhead
  have hissued : (s.tap k).state ≠ .issued := by obtain hst | hst := hst <;> simp [hst]
  have hretry : (s.tap k).state ≠ .retryWait := by obtain hst | hst := hst <;> simp [hst]
  have hw : ({ s.tap k with state := .idle } : Tap).Withdrawn s.resetLow :=
    (hk.withdrawn hissued).of_same rfl rfl rfl rfl
  exact hs.modTap rfl (hw.agrees_idle (hk.not_pending hissued) rfl (hk.retryTimer hretry) (by simp [hempty]))

theorem State.Placed.setDisablePending {o : Option (Fin 4)} {k : Fin 4} {s : State} (hs : s.Placed o)
    (hst : (s.tap k).state = .issued) : (s.modTap k fun p => { p with disablePending := true }).Placed o := by
  have hk := hs.2 k
  exact hs.modTap rfl ⟨fun _ => hst, hk.behind, hk.head, hk.ack, hk.retry, hk.presented, hk.driving, hk.rises⟩

/-- An ISSUED record of a tap's queue is its head, and the tap is ISSUED (R71). -/
theorem Tap.Agrees.issued_record {low released : Bool} {rec : Fin 16 → Option TransRecord} {p : Tap} {i : Fin 16}
    {r : TransRecord} (h : p.Agrees low rec released) (hi : i ∈ p.queue) (hr : rec i = some r)
    (hri : r.state = .issued) : p.state = .issued ∧ p.queue.head? = some i := by
  obtain ⟨a, rest, hq⟩ := List.exists_cons_of_ne_nil (List.ne_nil_of_mem hi)
  have hhead : p.queue.head? = some a := by simp [hq]
  have ha : a = i := by
    by_contra hne
    have hmem : i ∈ p.queue.tail := by
      rw [hq] at hi ⊢
      exact (List.mem_cons.1 hi).resolve_left (Ne.symm hne)
    simp [h.behind i r hmem hr] at hri
  subst ha
  refine ⟨?_, hhead⟩
  have hstate := h.head
  cases hst : p.state <;> simp only [Tap.HeadAgrees, hst] at hstate
  case disabled | faulted => simp [hq] at hstate
  case idle => simp [hstate a r hhead hr] at hri
  case issued => rfl
  case retryWait | held =>
    obtain ⟨j, x, hj, hx, hxs⟩ := hstate
    cases hhead.symm.trans hj
    cases hr.symm.trans hx
    simp [hxs] at hri

/-- In a state but ISSUED a tap holds no orphan (R64). -/
theorem State.Placed.orphan_of_not_issued {o : Option (Fin 4)} {k : Fin 4} {s : State} (hs : s.Placed o)
    (hst : (s.tap k).state ≠ .issued) {i : Fin 16} {r : TransRecord} (hi : i ∈ (s.tap k).queue)
    (hr : s.transAt i = some r) : r.orphan = false := by
  cases ho : r.orphan
  · rfl
  · exact absurd ((hs.2 k).issued_record hi hr (hs.1.orphan i r hr ho)).1 hst

theorem State.Placed.disableAtOnce {o : Option (Fin 4)} {k : Fin 4} {s : State} (hs : s.Placed o)
    (hst : (s.tap k).state ≠ .issued) : (s.disableAtOnce k).Placed o := by
  have hw : ({ s.tap k with queue := [], state := .disabled, retryTimer := none } : Tap).Withdrawn s.resetLow :=
    ((hs.2 k).withdrawn hst).of_same rfl rfl rfl rfl
  exact hs.emptyTap (f := fun p => { p with state := .disabled, retryTimer := none }) (.refl k s) hs.1
    (fun i r => hs.orphan_of_not_issued hst) .tapDisabled (fun _ => rfl)
    (hw.agrees_empty ((hs.2 k).not_pending hst) (.inl rfl) rfl rfl)

/-- The head record of a HELD tap is answered, and the tap goes to IDLE (R107). -/
theorem State.Placed.discardHold {o : Option (Fin 4)} {k : Fin 4} {s : State} (hs : s.Placed o)
    (hst : (s.tap k).state = .held) {i : Fin 16} {rest : List (Fin 16)} {r : TransRecord}
    (hq : (s.tap k).queue = i :: rest) (hr : s.transAt i = some r) (code : Code) :
    ((s.answer i code none).modTap k fun p => { p with state := .idle }).Placed o := by
  have hk := hs.2 k
  have hne : (s.tap k).state ≠ .issued := by simp [hst]
  have ho : r.orphan = false := hs.orphan_of_not_issued hne (by simp [hq]) hr
  have hended := hs.endIssued (f := id) hq hr rfl (hk.withdrawn hne) (hk.retryTimer (by simp [hst])) code none
  have he : (s.modTap k id).endIssued k i r code none = s.answer i code none := by
    have hid : s.modTap k id = s := by simp [State.modTap]
    rw [hid, State.endIssued, if_neg (by simp [ho])]
  rw [he] at hended
  refine hended.idle ?_
  obtain ⟨rfl, -⟩ := hs.1.of_mem (k := k) (by simp [hq]) hr
  rw [State.tap_answer hr, State.dequeue, State.tap_modTap_self]
  exact hk.not_pending hne

/-! ### Claims (R37) -/

/-- A QUEUED record joins the queue of a tap that takes records (R37). -/
theorem Tap.Agrees.append {low released : Bool} {rec rec' : Fin 16 → Option TransRecord} {p : Tap} {i : Fin 16}
    {r : TransRecord} (h : p.Agrees low rec released) (hdisabled : p.state ≠ .disabled) (hfaulted : p.state ≠ .faulted)
    (hi : i ∉ p.queue) (hr : rec' i = some r) (hqueued : r.state = .queued) (hrec : ∀ j, j ≠ i → rec' j = rec j) :
    ({ p with queue := p.queue ++ [i] } : Tap).Agrees low rec' released := by
  have hold : ∀ {j}, j ∈ p.queue → rec' j = rec j := fun hj => hrec _ fun e => hi (e ▸ hj)
  have hserved : ∀ {j}, p.queue.head? = some j → (p.queue ++ [i]).head? = some j ∧ rec' j = rec j := by
    intro j hj
    refine ⟨?_, hold (List.mem_of_head? hj)⟩
    rw [List.head?_append, hj]
    rfl
  refine ⟨h.pending, fun j x hj hx => ?_, ?_, h.ack, h.retry, h.presented, h.driving, h.rises⟩
  · by_cases hji : j = i
    · subst hji
      cases hr.symm.trans hx
      exact hqueued
    · have hj' : j ∈ p.queue.tail := by
        cases hq : p.queue with
        | nil => simp [hq] at hj
        | cons a l => simpa [hq, hji] using hj
      exact h.behind j x hj' (hold (List.mem_of_mem_tail hj') ▸ hx)
  · have hhead := h.head
    cases hst : p.state <;> simp only [Tap.HeadAgrees, hst] at hhead ⊢
    case disabled => exact absurd hst hdisabled
    case faulted => exact absurd hst hfaulted
    case idle =>
      intro j x hj hx
      by_cases hji : j = i
      · subst hji
        cases hr.symm.trans hx
        exact hqueued
      · have hj' : j ∈ p.queue := by simpa [hji] using List.mem_of_head? hj
        exact h.queued_of_idle hst hj' (hold hj' ▸ hx)
    case issued =>
      obtain ⟨j, x, hj, hx, hxs, hreq⟩ := hhead
      exact ⟨j, x, (hserved hj).1, (hserved hj).2.trans hx, hxs, hreq⟩
    case retryWait | held =>
      obtain ⟨j, x, hj, hx, hxs⟩ := hhead
      exact ⟨j, x, (hserved hj).1, (hserved hj).2.trans hx, hxs⟩

theorem State.Placed.allocate {o : Option (Fin 4)} {s : State} (hs : s.Placed o) {i : Fin 16} {r : TransRecord}
    (hfree : s.transAt i = none) (hqueued : r.state = .queued) (ho : r.orphan = false)
    (hroom : (s.tap r.tap).queue.length < 6) (hdisabled : (s.tap r.tap).state ≠ .disabled)
    (hfaulted : (s.tap r.tap).state ≠ .faulted) : (s.allocate i r).Placed o := by
  have htap : ∀ u, (s.allocate i r).tap u = (s.modTap r.tap fun p => { p with queue := p.queue ++ [i] }).tap u :=
    fun _ => rfl
  have hlow : (s.allocate i r).resetLow = s.resetLow := rfl
  have hresponses : (s.allocate i r).records.localResponses = s.records.localResponses := rfl
  have hself : (s.allocate i r).transAt i = some { r with hold := s.marks r } := by
    rw [s.transAt_allocate, if_pos rfl]
  have hne : ∀ j, j ≠ i → (s.allocate i r).transAt j = s.transAt j := fun j hj => by
    rw [s.transAt_allocate, if_neg hj]
  have hnew : ∀ u, i ∉ (s.tap u).queue := by
    intro u hi
    obtain ⟨q, hq, -⟩ := hs.1.record hi
    simp [hfree] at hq
  have hqueue : ∀ u, ((s.allocate i r).tap u).queue
      = if u = r.tap then (s.tap u).queue ++ [i] else (s.tap u).queue := by
    intro u
    rw [htap]
    split
    next h => rw [h, State.tap_modTap_self]
    next h => rw [s.tap_modTap_ne h]
  refine hs.of_touchesTap (k := r.tap) ⟨hlow, fun u hu => ?_, fun j q hq _ => ?_⟩
    ⟨fun u j => ?_, fun j => ?_, ?_, fun j q hq hoq => ?_, fun u => ?_, fun u => ?_⟩ ?_
  · rw [htap, s.tap_modTap_ne hu]
  · rw [hne j fun e => by simp [e ▸ hfree] at hq, hq]
  · rw [hqueue]
    by_cases hj : j = i
    · subst hj
      rw [hself]
      split
      next hu => simp [hu, hqueued]
      next hu => simp [hnew u, Ne.symm hu]
    · rw [hne j hj, ← hs.1.queue]
      split <;> simp [hj]
  · rw [hresponses, hs.1.responses]
    by_cases hj : j = i
    · subst hj
      simp [hself, hfree, hqueued]
    · rw [hne j hj]
  · rw [hresponses]
    exact hs.1.once
  · by_cases hj : j = i
    · subst hj
      rw [hself] at hq
      cases hq
      simp [ho] at hoq
    · exact hs.1.orphan j q (hne j hj ▸ hq) hoq
  · rw [hqueue]
    split
    · exact (hs.1.nodup u).append (List.nodup_singleton i) (List.disjoint_singleton.2 (hnew u))
    · exact hs.1.nodup u
  · rw [hqueue]
    split
    next hu =>
      rw [hu, List.length_append, List.length_singleton]
      omega
    · exact hs.1.length u
  · rw [htap, hlow, State.tap_modTap_self]
    exact (hs.2 r.tap).append hdisabled hfaulted (hnew r.tap) hself hqueued hne

/-! ### Answers sent, and sessions and resets (R60, R63, R67, R97) -/

/-- The answer at the head of the local response queue has been sent as `u`, and its record i is free (R60, R182). -/
def State.localSent (s : State) (i : Fin 16) (rest : List (Fin 16)) (u : Up) : State :=
  { (s.transmitUp u).freeRecord i with
    pointer := .refusals, records := { ((s.transmitUp u).freeRecord i).records with localResponses := rest } }

theorem State.sendLocalResponse_eq {s : State} {i : Fin 16} {rest : List (Fin 16)} {r : TransRecord}
    (hq : s.records.localResponses = i :: rest) (hr : s.transAt i = some r) :
    s.sendLocalResponse = s.localSent i rest r.packet := by
  unfold State.sendLocalResponse
  rw [hq]
  simp only [hr]
  rfl

theorem State.Placed.localSent {o : Option (Fin 4)} {s : State} (hs : s.Placed o) {i : Fin 16}
    {rest : List (Fin 16)} (hq : s.records.localResponses = i :: rest) (u : Up) : (s.localSent i rest u).Placed o := by
  have hself : (s.localSent i rest u).transAt i = none := (s.transmitUp u).transAt_freeRecord_self i
  have hne : ∀ j, j ≠ i → (s.localSent i rest u).transAt j = s.transAt j := fun j hj =>
    (s.transmitUp u).transAt_freeRecord_ne hj
  have hrest : ∀ k, (s.localSent i rest u).tap k = s.tap k ∧ (s.localSent i rest u).resetLow = s.resetLow := by
    intro k
    obtain ⟨tr, w, h⟩ := (s.transmitUp u).freeRecord_changes i
    rw [State.localSent, h]
    exact ⟨rfl, rfl⟩
  have hresponses : (s.localSent i rest u).records.localResponses = rest := rfl
  obtain ⟨r, hr, hanswered⟩ := (hs.1.responses i).1 (by simp [hq])
  have honce := hs.1.once
  rw [hq] at honce
  obtain ⟨hirest, hnrest⟩ := List.nodup_cons.1 honce
  refine ⟨⟨fun k j => ?_, fun j => ?_, hresponses ▸ hnrest, fun j q hq ho => ?_, fun k => ?_, fun k => ?_⟩, fun k => ?_⟩
  · rw [(hrest k).1, hs.1.queue]
    by_cases hj : j = i
    · subst hj
      simp [hself, hr, hanswered]
    · rw [hne j hj]
  · rw [hresponses]
    by_cases hj : j = i
    · subst hj
      simp [hself, hirest]
    · rw [hne j hj, ← hs.1.responses, hq]
      simp [hj]
  · by_cases hj : j = i
    · subst hj
      simp [hself] at hq
    · exact hs.1.orphan j q (hne j hj ▸ hq) ho
  · rw [(hrest k).1]
    exact hs.1.nodup k
  · rw [(hrest k).1]
    exact hs.1.length k
  · rw [(hrest k).1, (hrest k).2]
    refine (hs.2 k).congr rfl fun j hj => ?_
    have hji : j ≠ i := by
      rintro rfl
      exact (hs.1.of_mem hj hr).2 hanswered
    rw [hne j hji]

/-- An upper link loss leaves the head in the queue of an ISSUED tap, and empties every other queue (R97). -/
theorem Tap.queue_atUpperLoss (p : Tap) :
    p.atUpperLoss.queue = if p.state = .issued then p.queue.take 1 else [] := by
  unfold Tap.atUpperLoss
  cases h : p.state <;> simp

theorem Tap.mem_atUpperLoss (p : Tap) (i : Fin 16) :
    i ∈ p.atUpperLoss.queue ↔ p.state = .issued ∧ p.queue.head? = some i := by
  rw [p.queue_atUpperLoss]
  split
  next h => cases p.queue <;> simp [h, eq_comm]
  next h => simp [h]

/-- A transaction record outlives an upper link loss exactly if it is ISSUED, and is an orphan then (R63, R64). -/
theorem State.transAt_endSession_eq_some {s : State} {i : Fin 16} {x : TransRecord} : s.endSession.transAt i = some x ↔
    ∃ r, s.transAt i = some r ∧ r.state = .issued ∧ x = { r with orphan := true } := by
  rw [s.transAt_endSession, transAtUpperLoss_eq, Option.bind_eq_some_iff]
  refine exists_congr fun r => and_congr_right fun _ => ?_
  by_cases h : r.state = .issued <;> simp [h, eq_comm]

/-- A tap at an upper link loss agrees with the records that the loss leaves (R63, R97). -/
theorem Tap.Agrees.atUpperLoss {low released : Bool} {rec rec' : Fin 16 → Option TransRecord} {p : Tap}
    (h : p.Agrees low rec released)
    (hrec : ∀ i r, rec i = some r → r.state = .issued → rec' i = some { r with orphan := true }) :
    p.atUpperLoss.Agrees low rec' released := by
  by_cases hst : p.state = .issued
  · have he : p.atUpperLoss = { p with queue := p.queue.take 1 } := by simp [Tap.atUpperLoss, hst]
    have hhead := h.head
    simp only [Tap.HeadAgrees, hst] at hhead
    obtain ⟨i, r, hi, hr, hri, hreq⟩ := hhead
    obtain ⟨rest, hq⟩ := List.head?_eq_some_iff.1 hi
    rw [he]
    refine ⟨h.pending, by simp [hq], ?_, h.ack, h.retry, h.presented, h.driving, h.rises⟩
    simp only [Tap.HeadAgrees, hst]
    exact ⟨i, _, by simp [hq], hrec i r hr hri, hri, hreq⟩
  · have hpending := h.not_pending hst
    have hidle : ({ p with state := .idle, queue := [], retryTimer := none } : Tap).Withdrawn low :=
      (h.withdrawn hst).of_same rfl rfl rfl rfl
    have hkept : ({ p with queue := [] } : Tap).Withdrawn low := (h.withdrawn hst).of_same rfl rfl rfl rfl
    unfold Tap.atUpperLoss
    split
    · exact hidle.agrees_idle hpending rfl rfl (by simp)
    · exact hidle.agrees_idle hpending rfl rfl (by simp)
    next hs => exact absurd hs hst
    next hs => exact hkept.agrees_idle hpending hs (h.retryTimer (by simp [hs])) (by simp)
    next hs => exact hkept.agrees_empty hpending (.inr hs) (h.retryTimer (by simp [hs])) rfl
    next hs => exact hkept.agrees_empty hpending (.inl hs) (h.retryTimer (by simp [hs])) rfl

theorem State.Placed.endSession {s : State} (hs : s.Placed none) : s.endSession.Placed none := by
  have hresponses : s.endSession.records.localResponses = [] := rfl
  have hissued : ∀ {i x}, s.endSession.transAt i = some x → x.state = .issued := by
    intro i x hx
    obtain ⟨r, -, hri, rfl⟩ := State.transAt_endSession_eq_some.1 hx
    exact hri
  refine ⟨⟨fun k i => ?_, fun i => ?_, List.nodup_nil, fun i x hx _ => hissued hx, fun k => ?_, fun k => ?_⟩, fun k => ?_⟩
  · rw [s.tap_endSession, Tap.mem_atUpperLoss]
    constructor
    · rintro ⟨hst, hi⟩
      obtain ⟨j, rest, r, hq, hr, hri⟩ := (hs.2 k).head_of_issued hst
      obtain rfl : j = i := by simpa [hq] using hi
      exact ⟨_, State.transAt_endSession_eq_some.2 ⟨r, hr, hri, rfl⟩, (hs.1.of_mem (List.mem_of_head? hi) hr).1,
        by simp [hri]⟩
    · rintro ⟨x, hx, htap, -⟩
      obtain ⟨r, hr, hri, rfl⟩ := State.transAt_endSession_eq_some.1 hx
      have hi : i ∈ (s.tap k).queue := (hs.1.queue k i).2 ⟨r, hr, htap, by simp [hri]⟩
      exact (hs.2 k).issued_record hi hr hri
  · refine iff_of_false (by simp [hresponses]) ?_
    rintro ⟨x, hx, ha⟩
    simp [hissued hx] at ha
  · rw [s.tap_endSession, Tap.queue_atUpperLoss]
    split
    · exact (hs.1.nodup k).sublist (List.take_sublist _ _)
    · exact List.nodup_nil
  · rw [s.tap_endSession, Tap.queue_atUpperLoss]
    split
    · exact (List.length_take_le 1 _).trans (by decide)
    · exact Nat.zero_le _
  · rw [s.tap_endSession]
    exact (hs.2 k).atUpperLoss fun i r hr hri => State.transAt_endSession_eq_some.2 ⟨r, hr, hri, rfl⟩

/-- A part whose records are all FREE and whose taps hold none and present nothing. -/
theorem State.placed_of_empty {o : Option (Fin 4)} {s : State} (hr : s.records = .empty)
    (ht : ∀ k, (s.tap k).queue = [] ∧ (s.tap k).Agrees s.resetLow s.transAt (decide (o = some k))) : s.Placed o := by
  have hnone : ∀ i, s.transAt i = none := fun i => by
    rw [State.transAt, hr]
    exact RecordTable.trans_empty i
  have hresponses : s.records.localResponses = [] := by rw [hr]; rfl
  refine ⟨⟨fun k i => ?_, fun i => ?_, ?_, fun i r hi => ?_, fun k => ?_, fun k => ?_⟩, fun k => (ht k).2⟩
  · simp [(ht k).1, hnone]
  · simp [hresponses, hnone]
  · simp [hresponses]
  · simp [hnone] at hi
  · simp [(ht k).1]
  · simp [(ht k).1]

theorem State.placed_branchReset (s : State) : s.branchReset.Placed none := by
  refine State.placed_of_empty rfl fun k => ?_
  have hw : (s.tap k).atBranchReset.Withdrawn s.branchReset.resetLow := ⟨rfl, fun _ => rfl, rfl, rfl⟩
  rw [s.tap_branchReset]
  exact ⟨rfl, hw.agrees_empty rfl (.inl rfl) rfl rfl⟩

theorem State.placed_reset (is : List Instr) : ({ State.reset with pending := is } : State).Placed none := by
  refine State.placed_of_empty rfl fun k => ?_
  have htap : ({ State.reset with pending := is } : State).tap k = .atReset := by simp [State.tap, State.reset]
  have hw : Tap.atReset.Withdrawn false := ⟨rfl, fun _ => rfl, rfl, rfl⟩
  rw [htap]
  exact ⟨rfl, hw.agrees_empty rfl (.inl rfl) rfl rfl⟩

/-- While RSTIN is low no request is presented, whatever a tap's state (R191). -/
theorem State.Placed.resetAsserted {s t : State} (hs : s.Placed none) (hlow : t.resetLow = true)
    (hrec : t.records = s.records) (htap : ∀ k, t.tap k = (s.tap k).pinsLow) : t.Placed none := by
  have htrans : t.transAt = s.transAt := by
    funext i
    rw [State.transAt, hrec, State.transAt]
  refine ⟨hs.1.congr (fun i => by rw [htrans]) (by rw [hrec]) fun k => by rw [htap]; rfl, fun k => ?_⟩
  have hk := hs.2 k
  rw [hlow, htap, htrans]
  refine ⟨hk.pending, hk.behind, ?_, hk.ack, hk.retry, fun h => by simp at h, fun h => by simp [Tap.pinsLow] at h,
    fun h => absurd rfl h⟩
  have hhead := hk.head
  have hst : (s.tap k).pinsLow.state = (s.tap k).state := rfl
  cases h : (s.tap k).state <;> simp only [Tap.HeadAgrees, hst, h] at hhead ⊢
  case issued =>
    obtain ⟨i, r, hi, hr, hri, -⟩ := hhead
    exact ⟨i, r, hi, hr, hri, fun h => by simp at h⟩
  all_goals exact hhead

/-! ### The time base (R82, R184) -/

theorem TransRecord.place_step (taps : Vector Tap 4) (r : TransRecord) : (r.step taps).place = r.place := by
  unfold TransRecord.step
  split <;> rfl

theorem Tap.service_step (p : Tap) : p.step.service = p.service := by
  simp [Tap.service, Tap.step, Timer.step]

theorem State.Placed.tick {o : Option (Fin 4)} {s : State} (hs : s.Placed o) : s.tick.Placed o := by
  unfold State.tick
  split
  · exact hs
  · refine hs.congr rfl (fun i => ?_) rfl fun k => ?_
    · simp only [State.transAt, Fin.getElem_fin, Vector.getElem_map]
      cases s.records.trans[i.val] <;> simp [TransRecord.place_step]
    · simp only [State.tap, Fin.getElem_fin, Vector.getElem_map, Tap.service_step]

end Sys2Proof.Machine

/-! ## Tags, records and management records at every step

`State.KeepsRules` says of an event that it keeps the three invariants on records together, and `State.keepsRules_exec`
that every command does. Most events leave records and taps alone (`State.KeepsRecords`). -/

namespace Sys2Proof.Machine

/-- From `s` to `t` the record tables, the taps and RSTIN are kept. -/
structure State.KeepsRecords (s t : State) : Prop where
  records : t.records = s.records
  taps : t.taps = s.taps
  low : t.resetLow = s.resetLow

/-- From `s` to `t` the tags stay different, the management records and the transaction records stay in their places. -/
structure State.KeepsRules (s t : State) : Prop extends s.KeepsLedger t where
  placed : s.Placed none → t.Placed none

theorem State.KeepsRules.refl (s : State) : s.KeepsRules s := ⟨.refl s, id⟩

theorem State.KeepsRules.trans {s t u : State} (h : s.KeepsRules t) (h' : t.KeepsRules u) : s.KeepsRules u :=
  ⟨h.toKeepsLedger.trans h'.toKeepsLedger, h'.placed ∘ h.placed⟩

theorem State.KeepsRecords.rules {s t : State} (h : s.KeepsRecords t) : s.KeepsRules t where
  toKeepsLedger := .of_records h.records
  placed hs := hs.congr h.low (fun i => by rw [State.transAt, h.records, State.transAt]) (by rw [h.records])
    fun k => by rw [State.tap, h.taps, State.tap]

theorem State.KeepsRecords.refl (s : State) : s.KeepsRecords s := ⟨rfl, rfl, rfl⟩

theorem State.KeepsRecords.trans {s t u : State} (h : s.KeepsRecords t) (h' : t.KeepsRecords u) : s.KeepsRecords u :=
  ⟨h'.records.trans h.records, h'.taps.trans h.taps, h'.low.trans h.low⟩

/-! ### Ports, queues and flags -/

theorem State.keepsRecords_modPort (s : State) (p : PortId) (f : Port → Port) : s.KeepsRecords (s.modPort p f) :=
  ⟨by simp, by simp, by simp⟩

theorem State.keepsRecords_announceIfDue (s : State) : s.KeepsRecords s.announceIfDue := by
  obtain ⟨a, h⟩ := s.announceIfDue_changes
  rw [h]
  exact ⟨rfl, rfl, rfl⟩

theorem State.keepsRecords_raiseFlag (s : State) (n : Nat) : s.KeepsRecords (s.raiseFlag n) := by
  obtain ⟨a, h⟩ := s.raiseFlag_changes n
  rw [h]
  exact ⟨rfl, rfl, rfl⟩

theorem State.keepsRecords_settle (s : State) : s.KeepsRecords s.settle := by
  obtain ⟨c, m, u, rx, q, h⟩ := s.settle_changes
  rw [h]
  exact ⟨rfl, rfl, rfl⟩

theorem State.keepsRecords_refuseHead (s : State) (r : Refused) : s.KeepsRecords (s.refuseHead r) := by
  obtain ⟨c, m, u, rx, h⟩ := s.refuseHead_changes r
  rw [h]
  exact ⟨rfl, rfl, rfl⟩

theorem State.keepsRecords_passHead (s : State) (p : Down) : s.KeepsRecords (s.passHead p) := by
  obtain ⟨c, m, u, rx, q, h⟩ := s.passHead_changes p
  rw [h]
  exact ⟨rfl, rfl, rfl⟩

theorem State.keepsRecords_loseLower (s : State) (next : Port → Port) : s.KeepsRecords (s.loseLower next) := by
  obtain ⟨l, rx, q, c, m, u, urx, a, h⟩ := s.loseLower_changes next
  rw [h]
  exact ⟨rfl, rfl, rfl⟩

theorem State.keepsRecords_completeTraining (s : State) (p : PortId) : s.KeepsRecords (s.completeTraining p) := by
  unfold State.completeTraining
  split
  · cases p
    · exact (s.keepsRecords_modPort .upper _).trans (State.keepsRecords_announceIfDue _)
    · exact (s.keepsRecords_modPort .lower _).trans (State.keepsRecords_raiseFlag _ _)
  · exact .refl s

theorem State.keepsRecords_relay (s : State) (u : Up) : s.KeepsRecords (s.relay u) := by
  unfold State.relay
  dsimp only
  split
  · exact ⟨rfl, rfl, rfl⟩
  · split <;> exact ⟨rfl, rfl, rfl⟩

theorem State.keepsRecords_applyEnable (s : State) (before after : Bool) :
    s.KeepsRecords (s.applyEnable before after) := by
  unfold State.applyEnable
  split
  · exact .refl s
  split
  · exact ⟨rfl, rfl, rfl⟩
  split
  · exact s.keepsRecords_loseLower _
  · exact ⟨rfl, rfl, rfl⟩

/-! ### Link losses and packets received -/

theorem State.keepsRules_branchReset (s : State) : s.KeepsRules s.branchReset :=
  ⟨.of_empty s rfl, fun _ => s.placed_branchReset⟩

theorem State.keepsRules_endSession (s : State) : s.KeepsRules s.endSession :=
  ⟨s.keepsLedger_endSession, State.Placed.endSession⟩

theorem State.keepsRules_loseLink (s : State) (p : PortId) : s.KeepsRules (s.loseLink p) := by
  cases p
  · have hlost : s.loseLink .upper = s.loseUpper := rfl
    rw [hlost, State.loseUpper]
    split
    · exact s.keepsRules_endSession.trans (State.keepsRules_branchReset _)
    · exact s.keepsRules_endSession
  · exact (s.keepsRecords_loseLower _).rules

theorem State.keepsRules_failCheck (s : State) (p : PortId) : s.KeepsRules (s.failCheck p) := by
  have hcount := (s.keepsRecords_modPort p Port.countCheckFailure).rules
  unfold State.failCheck
  dsimp only
  split
  · exact hcount.trans (State.keepsRules_loseLink _ p)
  · exact hcount

theorem State.keepsRules_receiveUpper (s : State) (chars : List PacketChar) : s.KeepsRules (s.receiveUpper chars) := by
  unfold State.receiveUpper
  split
  · exact s.keepsRules_failCheck .upper
  · exact (s.keepsRecords_modPort .upper _).rules
  · exact (s.keepsRecords_modPort .upper _).rules
  · exact State.KeepsRecords.rules ⟨rfl, rfl, rfl⟩

theorem State.keepsRules_receiveLower (s : State) (chars : List PacketChar) : s.KeepsRules (s.receiveLower chars) := by
  unfold State.receiveLower
  split
  · exact s.keepsRules_failCheck .lower
  · exact (s.keepsRecords_modPort .lower _).rules
  · exact (s.keepsRecords_modPort .lower _).rules
  · exact (s.keepsRecords_relay _).rules

theorem State.keepsRules_receivePacket (s : State) (p : PortId) (chars : List PacketChar) :
    s.KeepsRules (s.receivePacket p chars) := by
  unfold State.receivePacket
  split
  · exact .refl s
  have hheard := (s.keepsRecords_modPort p Port.heard).rules
  dsimp only
  split
  · exact hheard.trans (State.keepsRecords_modPort _ p _).rules
  · cases p
    · exact hheard.trans (State.keepsRules_receiveUpper _ chars)
    · exact hheard.trans (State.keepsRules_receiveLower _ chars)

theorem State.keepsRules_receiveHello (s : State) (p : PortId) (capacity : Nat) (ready : Bool) :
    s.KeepsRules (s.receiveHello p capacity ready) := by
  unfold State.receiveHello
  split
  · exact .refl s
  · split
    · exact (s.keepsRecords_modPort p _).rules
    · exact ((s.keepsRecords_modPort p _).trans (State.keepsRecords_completeTraining _ p)).rules
  · split
    · exact (s.keepsRecords_modPort p _).rules
    · exact s.keepsRules_loseLink p

/-! ### The classifier (R30, R37) -/

theorem State.keepsRules_claimHead (s : State) (b : BankId) (e : Fin 32) (w : Window) (q : Request) :
    s.KeepsRules (s.claimHead b e w q) := by
  unfold State.claimHead
  split
  · exact (s.keepsRecords_refuseHead _).rules
  next hcheck =>
    obtain ⟨htag, hroom, hdisabled, hfaulted⟩ := State.claimCheck_passed hcheck
    split
    next i hi =>
      exact ⟨s.keepsLedger_allocate i htag,
        fun hs => hs.allocate (State.transAt_of_freeTrans? hi) rfl rfl hroom hdisabled hfaulted⟩
    · exact .refl s

theorem State.keepsRules_classifyRequest (s : State) (q : Request) : s.KeepsRules (s.classifyRequest q) := by
  unfold State.classifyRequest
  split
  · exact (s.keepsRecords_passHead _).rules
  next b _ =>
    split
    · split
      · exact (s.keepsRecords_passHead _).rules
      · exact (s.keepsRecords_refuseHead _).rules
    next e _ =>
      split
      · exact .refl s
      · have hhit : s.KeepsRecords (s.modBank b fun x => x.countHit e) := ⟨rfl, rfl, rfl⟩
        dsimp only
        split
        · exact (hhit.trans (State.keepsRecords_passHead _ _)).rules
        · exact (hhit.trans (State.keepsRecords_refuseHead _ _)).rules
        · exact hhit.rules.trans (State.keepsRules_claimHead _ b e _ q)

theorem State.keepsRules_classifyMgmt (s : State) (m : MgmtPacket) : s.KeepsRules (s.classifyMgmt m) := by
  unfold State.classifyMgmt
  split
  · exact (s.keepsRecords_passHead _).rules
  split
  · exact (s.keepsRecords_refuseHead _).rules
  next htag =>
    split
    · exact (s.keepsRecords_refuseHead _).rules
    next i hi =>
      refine ⟨State.keepsLedger_keepMgmt (State.freeMgmt?_eq_some_iff.1 hi).1 (by simpa using htag), fun hs => ?_⟩
      exact hs.congr rfl (fun _ => rfl) rfl fun _ => rfl

theorem State.keepsRules_classify (s : State) : s.KeepsRules s.classify := by
  unfold State.classify
  split
  · exact .refl s
  split
  · exact .refl s
  · exact s.keepsRules_classifyRequest _
  · exact s.keepsRules_classifyMgmt _

/-! ### The upper transmitter (R60, R182) -/

theorem State.keepsRules_sendMgmtResponse (s : State) : s.KeepsRules s.sendMgmtResponse := by
  refine ⟨s.keepsLedger_sendMgmtResponse, fun hs => ?_⟩
  unfold State.sendMgmtResponse
  split
  · exact hs
  split
  · exact hs
  split
  · exact hs
  dsimp only
  split
  · exact State.placed_branchReset _
  · exact hs.congr rfl (fun _ => rfl) rfl fun _ => rfl

theorem State.keepsRules_sendLocalResponse (s : State) : s.KeepsRules s.sendLocalResponse := by
  cases hq : s.records.localResponses with
  | nil =>
    have he : s.sendLocalResponse = s := by simp [State.sendLocalResponse, hq]
    rw [he]
    exact .refl s
  | cons i rest =>
  cases hr : s.transAt i with
  | none =>
    have he : s.sendLocalResponse = s := by simp [State.sendLocalResponse, hq, hr]
    rw [he]
    exact .refl s
  | some r =>
    rw [State.sendLocalResponse_eq hq hr]
    refine ⟨?_, fun hs => hs.localSent hq _⟩
    have hsent : s.KeepsLedger (s.transmitUp r.packet) := .of_records rfl
    exact (hsent.trans (State.keepsLedger_freeRecord _ i)).trans (.of_same rfl ⟨rfl, rfl, rfl⟩)

theorem State.keepsRules_arbitrate (s : State) : s.KeepsRules s.arbitrate := by
  unfold State.arbitrate
  split
  · exact State.KeepsRecords.rules ⟨rfl, rfl, rfl⟩
  split
  · exact s.keepsRules_sendMgmtResponse
  · exact s.keepsRules_sendLocalResponse
  · unfold State.sendRefusal
    split
    · exact .refl s
    · refine State.KeepsRecords.rules (State.KeepsRecords.trans ?_ (State.keepsRecords_settle _))
      exact ⟨rfl, rfl, rfl⟩
  · unfold State.sendRelay
    split
    · exact .refl s
    · exact State.KeepsRecords.rules ⟨rfl, rfl, rfl⟩
  · exact .refl s

/-! ### The tap ports -/

theorem State.keepsRules_modTap (s : State) (k : Fin 4) {f : Tap → Tap} (hf : ∀ p, (f p).service = p.service) :
    s.KeepsRules (s.modTap k f) :=
  ⟨s.keepsLedger_modTap k f, fun hs => hs.modTap_service (hf _)⟩

theorem Tap.service_keepSample (p : Tap) (line : LineId) (level : Bool) :
    (p.keepSample line level).service = p.service := by
  cases line <;> rfl

theorem State.keepsRules_sampleLine (s : State) (k : Fin 4) (line : LineId) (level : Bool) :
    s.KeepsRules (s.sampleLine k line level) := by
  have hkept := s.keepsRules_modTap k fun p => p.service_keepSample line level
  unfold State.sampleLine
  split
  · exact .refl s
  dsimp only
  split
  · exact hkept.trans (State.keepsRecords_raiseFlag _ _).rules
  · exact hkept

/-! ### Management operations -/

/-- An operation's body keeps the invariants, and the management queue, in which its own record stands. -/
structure State.Operates (s t : State) : Prop extends s.KeepsRules t where
  mgmtQueue : t.records.mgmtQueue = s.records.mgmtQueue

theorem State.KeepsRecords.operates {s t : State} (h : s.KeepsRecords t) : s.Operates t := ⟨h.rules, by rw [h.records]⟩

theorem State.Operates.refl (s : State) : s.Operates s := (State.KeepsRecords.refl s).operates

theorem State.keepsRules_startMgmt {s : State} {i : Fin 3} {r : MgmtRecord} (h : s.beginnable? = some (i, r)) :
    s.KeepsRules (s.startMgmt i r) :=
  ⟨State.keepsLedger_startMgmt h, fun hs => hs.congr rfl (fun _ => rfl) rfl fun _ => rfl⟩

theorem State.keepsRules_finishMgmt {s : State} {i : Fin 3} (hi : i ∈ s.records.mgmtQueue) (code : Code)
    (result : List Word) : s.KeepsRules (s.finishMgmt i code result) :=
  ⟨State.keepsLedger_finishMgmt hi code result, fun hs => hs.finishMgmt i code result⟩

/-- An operation keeps the invariants if its body does (R129 to R131). -/
theorem State.keepsRules_begin {op : Op} {body : State → List Word → Begun}
    (hbody : ∀ (u : State) ws, u.Operates ((body u ws).state u)) (s : State) : s.KeepsRules (s.begin op body) := by
  unfold State.begin
  split
  next i r hbegin =>
    have hstart := State.keepsRules_startMgmt hbegin
    have hi : i ∈ (s.startMgmt i r).records.mgmtQueue := List.mem_of_head? (State.beginnable?_eq_some hbegin).1
    split
    · dsimp only
      split
      · have hop := hbody (s.startMgmt i r) r.operands
        refine hstart.trans ?_
        cases hb : body (s.startMgmt i r) r.operands with
        | refuse code => exact State.keepsRules_finishMgmt hi _ _
        | done result t =>
          rw [hb, Begun.state_done] at hop
          exact hop.toKeepsRules.trans (State.keepsRules_finishMgmt (hop.mgmtQueue ▸ hi) _ _)
        | span t =>
          rw [hb, Begun.state_span] at hop
          exact hop.toKeepsRules
      · exact hstart.trans (State.keepsRules_finishMgmt hi _ _)
    · exact .refl s
  · exact .refl s

/-- An operation whose body reads and changes nothing. -/
theorem State.keepsRules_begin_reading {op : Op} {body : State → List Word → Begun}
    (hbody : ∀ (u : State) ws, (body u ws).state u = u) (s : State) : s.KeepsRules (s.begin op body) :=
  State.keepsRules_begin (fun u ws => by rw [hbody]; exact .refl u) s

/-- The operations' bodies that do no more than edit a bank, a watch or the flags, or pause the classifier. -/
def recordKeepingBodies : List (State → List Word → Begun) :=
  [writeEntryBody, clearBankBody, setMissActionBody, openBankBody, selectBankBody, clearHitCountsBody, setWatchBody,
    disarmWatchBody, clearAttentionBody, branchResetBody]

/-- An operation that edits neither records nor taps: on every way through its body they stay. -/
theorem State.keepsRules_begin_editing (s : State) {op : Op} {body : State → List Word → Begun}
    (h : body ∈ recordKeepingBodies) : s.KeepsRules (s.begin op body) := by
  refine State.keepsRules_begin (fun u ws => State.KeepsRecords.operates ?_) s
  simp only [recordKeepingBodies, List.mem_cons, List.not_mem_nil, or_false] at h
  rcases h with rfl | rfl | rfl | rfl | rfl | rfl | rfl | rfl | rfl | rfl
  all_goals
    delta writeEntryBody clearBankBody setMissActionBody openBankBody selectBankBody clearHitCountsBody setWatchBody
      disarmWatchBody clearAttentionBody branchResetBody
    repeat' split
    all_goals exact ⟨rfl, rfl, rfl⟩

theorem State.operates_modTap (s : State) (k : Fin 4) {f : Tap → Tap} (hf : s.Placed none → (s.modTap k f).Placed none) :
    s.Operates (s.modTap k f) := ⟨⟨s.keepsLedger_modTap k f, hf⟩, rfl⟩

theorem State.operates_readCountersBody (s : State) (ws : List Word) : s.Operates ((readCountersBody s ws).state s) := by
  unfold readCountersBody
  split
  · split
    · dsimp only [Begun.state_done]
      split
      · unfold State.clearGroup
        split
        · exact (s.keepsRecords_modPort _ _).operates
        · exact s.operates_modTap _ fun hs => hs.modTap_service rfl
        · exact State.KeepsRecords.operates ⟨rfl, rfl, rfl⟩
      · exact .refl s
    · exact .refl s
  · exact .refl s

theorem State.operates_tapEnableBody (s : State) (ws : List Word) : s.Operates ((tapEnableBody s ws).state s) := by
  unfold tapEnableBody
  split
  · split
    · exact .refl s
    next k _ =>
      split
      next hst =>
        rw [Begun.state_done]
        exact s.operates_modTap k fun hs => hs.tapEnable (.inl hst)
      · split <;> exact .refl s
      all_goals exact .refl s
  · exact .refl s

theorem State.operates_tapRecoverBody (s : State) (ws : List Word) : s.Operates ((tapRecoverBody s ws).state s) := by
  unfold tapRecoverBody
  split
  · split
    · exact .refl s
    next k _ =>
      split
      next hst =>
        rw [Begun.state_done]
        exact s.operates_modTap k fun hs => hs.tapEnable (.inr hst)
      all_goals exact .refl s
  · exact .refl s

theorem State.operates_setTapLinesBody (s : State) (ws : List Word) : s.Operates ((setTapLinesBody s ws).state s) := by
  unfold setTapLinesBody
  split
  · split
    · split
      · rw [Begun.state_done]
        exact s.operates_modTap _ fun hs => hs.modTap_service rfl
      · exact .refl s
    · exact .refl s
  · exact .refl s

theorem State.mgmtQueue_answerAll (s : State) (is : List (Fin 16)) (code : Code) :
    (s.answerAll is code).records.mgmtQueue = s.records.mgmtQueue := by
  obtain ⟨tr, lr, ts, h⟩ := s.answerAll_changes is code
  rw [h]

theorem State.operates_disableAtOnce {s : State} {k : Fin 4} (hst : (s.tap k).state ≠ .issued) :
    s.Operates (s.disableAtOnce k) :=
  ⟨⟨s.keepsLedger_disableAtOnce k, fun hs => hs.disableAtOnce hst⟩, s.mgmtQueue_answerAll _ _⟩

theorem State.operates_tapDisableBody (s : State) (ws : List Word) : s.Operates ((tapDisableBody s ws).state s) := by
  unfold tapDisableBody
  split
  · split
    · exact .refl s
    next k _ =>
      split
      next hst => exact s.operates_modTap k fun hs => hs.setDisablePending hst
      · exact .refl s
      all_goals
        next hst => exact State.operates_disableAtOnce (by simp [hst])
  · exact .refl s

/-- The held record is the head of its tap's queue (R69). -/
theorem State.heldRecord?_eq_some {s : State} {k : Fin 4} {i : Fin 16} {r : TransRecord}
    (h : s.heldRecord? k = some (i, r)) :
    (s.tap k).state = .held ∧ s.transAt i = some r ∧ ∃ rest, (s.tap k).queue = i :: rest := by
  refine ⟨?_, State.transAt_of_heldRecord h, ?_⟩ <;> unfold State.heldRecord? at h <;> split at h
  next hst => exact hst
  · exact absurd h (by simp)
  · split at h
    · exact absurd h (by simp)
    next j rest hq =>
      obtain ⟨q, -, he⟩ := Option.map_eq_some_iff.1 h
      cases he
      exact ⟨rest, hq⟩
  · exact absurd h (by simp)

theorem State.operates_releaseHoldBody (s : State) (ws : List Word) : s.Operates ((releaseHoldBody s ws).state s) := by
  unfold releaseHoldBody
  split
  · split
    · exact .refl s
    next k _ =>
      split
      · exact .refl s
      next i r hheld =>
        obtain ⟨-, hr, rest, hq⟩ := State.heldRecord?_eq_some hheld
        exact ⟨⟨State.keepsLedger_issue hr rfl, fun hs => hs.issue hq hr rfl⟩, rfl⟩
  · exact .refl s

theorem State.operates_discardHoldBody (s : State) (ws : List Word) : s.Operates ((discardHoldBody s ws).state s) := by
  unfold discardHoldBody
  split
  · split
    · exact .refl s
    next k _ =>
      split
      · exact .refl s
      next i r hheld =>
        obtain ⟨hst, hr, rest, hq⟩ := State.heldRecord?_eq_some hheld
        rw [Begun.state_done]
        refine ⟨⟨(s.keepsLedger_answer i .discarded none).trans (State.keepsLedger_modTap _ k _),
          fun hs => hs.discardHold hst hq hr .discarded⟩, ?_⟩
        obtain ⟨tr, lr, ts, h⟩ := s.answer_changes i .discarded none
        rw [State.records_modTap, h]
  · exact .refl s

theorem State.keepsRecords_readAttentionBody (s : State) (ws : List Word) :
    s.KeepsRecords ((readAttentionBody s ws).state s) := by
  unfold readAttentionBody
  split
  · split
    · exact .refl s
    · dsimp only [Begun.state_done]
      split
      · exact ⟨rfl, rfl, rfl⟩
      · exact .refl s
  · exact .refl s

theorem State.keepsRecords_modAttention_announceIfDue (s : State) (f : Attention → Attention) :
    s.KeepsRecords (s.modAttention f).announceIfDue := by
  refine State.KeepsRecords.trans ?_ (State.keepsRecords_announceIfDue _)
  exact ⟨rfl, rfl, rfl⟩

theorem State.keepsRecords_setAttentionEnablesBody (s : State) (ws : List Word) :
    s.KeepsRecords ((setAttentionEnablesBody s ws).state s) := by
  unfold setAttentionEnablesBody
  split
  · split
    · exact s.keepsRecords_modAttention_announceIfDue _
    · exact .refl s
  · exact .refl s

theorem State.keepsRecords_acknowledgeAttentionBody (s : State) (ws : List Word) :
    s.KeepsRecords ((acknowledgeAttentionBody s ws).state s) := by
  unfold acknowledgeAttentionBody
  split
  · split
    · exact .refl s
    · split
      · exact .refl s
      · exact s.keepsRecords_modAttention_announceIfDue _
  · exact .refl s

theorem State.keepsRecords_setParameterBody (s : State) (ws : List Word) :
    s.KeepsRecords ((setParameterBody s ws).state s) := by
  unfold setParameterBody
  split
  · split
    · exact .refl s
    · dsimp only
      split
      · refine State.KeepsRecords.trans ?_ (State.keepsRecords_applyEnable _ _ _)
        exact ⟨rfl, rfl, rfl⟩
      · exact .refl s
  · exact .refl s

theorem State.keepsRules_completeVerify {s : State} {i : Fin 3} {b : BankId} (h : s.verifying? = some (i, b)) :
    s.KeepsRules (s.completeVerify i b) := by
  have hi : i ∈ s.records.mgmtQueue := by
    unfold State.verifying? at h
    split at h
    next j r hhead =>
      split at h
      · split at h
        · obtain ⟨c, -, he⟩ := Option.map_eq_some_iff.1 h
          cases he
          exact List.mem_of_head? (State.mgmtHead?_eq_some hhead).1
        · exact absurd h (by simp)
      · exact absurd h (by simp)
    · exact absurd h (by simp)
  unfold State.completeVerify
  split
  · exact State.keepsRules_finishMgmt hi _ _
  · have hpass : s.KeepsRecords (s.modBank b Bank.passed) := ⟨rfl, rfl, rfl⟩
    exact hpass.rules.trans (State.keepsRules_finishMgmt (s := s.modBank b Bank.passed) hi _ _)

/-! ### Every command -/

theorem State.KeepsRules.of_taken {s u t : State} (h : s.taken u = .next t) (hu : s.KeepsRules u) : s.KeepsRules t := by
  rw [State.eq_of_taken h]
  split
  · exact .refl s
  · exact hu

theorem State.keepsRules_exec {c : Instr} {s t : State} (h : exec c s = .next t) : s.KeepsRules t := by
  cases c with
  | powerUpReset =>
    cases h
    exact ⟨.of_empty s rfl, fun _ => State.placed_reset s.pending⟩
  | resetAsserted =>
    cases h
    exact ⟨.of_records rfl, fun hs => hs.resetAsserted rfl rfl fun k => by simp [State.tap]⟩
  | packetReceived port chars => exact .of_taken h (s.keepsRules_receivePacket port chars)
  | helloReceived port payload =>
    refine .of_taken h ?_
    split
    · exact s.keepsRules_receiveHello port _ _
    · exact (s.keepsRecords_modPort port _).rules
  | creditReceived port payload =>
    refine .of_taken h ?_
    split <;> exact (s.keepsRecords_modPort port _).rules
  | idleReceived port payload =>
    refine .of_taken h ?_
    split <;> exact (s.keepsRecords_modPort port _).rules
  | damagedSymbolReceived port => exact .of_taken h (s.keepsRecords_modPort port _).rules
  | helloPeriod port =>
    refine .of_taken h ?_
    split
    · exact ((s.keepsRecords_modPort port _).trans (State.keepsRecords_completeTraining _ port)).rules
    · exact .refl s
  | trainingRestart port =>
    refine .of_taken h ?_
    split
    · exact (s.keepsRecords_modPort port _).rules
    · exact .refl s
  | silenceTimeout port =>
    refine .of_taken h ?_
    split
    · exact s.keepsRules_loseLink port
    · exact .refl s
  | sendCredit port =>
    refine .of_taken h ?_
    split
    · exact (s.keepsRecords_modPort port _).rules
    · exact .refl s
  | classifyPacket => exact .of_taken h s.keepsRules_classify
  | lowerSend =>
    refine .of_taken h ?_
    split
    · exact .refl s
    · split
      · refine State.KeepsRecords.rules (State.KeepsRecords.trans ?_ (State.keepsRecords_settle _))
        exact ⟨rfl, rfl, rfl⟩
      · exact .refl s
  | arbiterSend =>
    refine .of_taken h ?_
    split
    · exact s.keepsRules_arbitrate
    · exact .refl s
  | examineHead tap =>
    refine .of_taken h ?_
    split
    next hidle => exact ⟨s.keepsLedger_examine tap, fun hs => hs.examine hidle.1⟩
    · exact .refl s
  | tapAcknowledge tap input =>
    refine .of_taken h ?_
    cases input with
    | strobe a => exact ⟨s.keepsLedger_riseOfAck tap a, fun hs => hs.riseOfAck tap a⟩
    | dataByte b => exact ⟨s.keepsLedger_takeByte tap b, fun hs => hs.takeByte tap b⟩
    | release => exact ⟨s.keepsLedger_releaseData tap, fun hs => hs.releaseData tap⟩
  | ackTimeout tap =>
    refine .of_taken h ?_
    split
    next hdue => exact ⟨s.keepsLedger_timeOut tap, fun hs => hs.timeOut hdue.1⟩
    · exact .refl s
  | retryTimerExpiry tap =>
    refine .of_taken h ?_
    split
    · exact ⟨s.keepsLedger_reissue tap, fun hs => hs.reissue tap⟩
    · exact .refl s
  | waitTimerExpiry index =>
    refine .of_taken h ?_
    split
    · exact .refl s
    next r hr =>
      split
      next hdue =>
        exact ⟨(s.keepsLedger_answer index _ _).trans (State.keepsLedger_modTap _ _ _),
          fun hs => hs.expireWait hr hdue.1⟩
      · exact .refl s
  | attentionLineAsserted tap line => exact .of_taken h (s.keepsRules_sampleLine tap line true)
  | attentionLineReleased tap line => exact .of_taken h (s.keepsRules_sampleLine tap line false)
  | reAnnounce =>
    refine .of_taken h ?_
    split
    · split
      · exact State.KeepsRecords.rules ⟨rfl, rfl, rfl⟩
      · exact .refl s
    · exact .refl s
  | verifyBankComplete =>
    refine .of_taken h ?_
    split
    next hverify => exact State.keepsRules_completeVerify hverify
    · exact .refl s
  | unknownOperation =>
    refine .of_taken h ?_
    split
    next i r hbegin =>
      have hi : i ∈ (s.startMgmt i r).records.mgmtQueue := List.mem_of_head? (State.beginnable?_eq_some hbegin).1
      split
      · exact .refl s
      · exact (State.keepsRules_startMgmt hbegin).trans (State.keepsRules_finishMgmt hi _ _)
    · exact .refl s
  | readIdentity => exact .of_taken h (State.keepsRules_begin_reading (fun _ _ => rfl) s)
  | readBranchStatus => exact .of_taken h (State.keepsRules_begin_reading (fun _ _ => rfl) s)
  | readRecord => exact .of_taken h (State.keepsRules_begin_reading readRecordBody_reads s)
  | readCounters => exact .of_taken h (State.keepsRules_begin State.operates_readCountersBody s)
  | writeEntry => exact .of_taken h (s.keepsRules_begin_editing (by simp [recordKeepingBodies]))
  | readEntry => exact .of_taken h (State.keepsRules_begin_reading readEntryBody_reads s)
  | clearBank => exact .of_taken h (s.keepsRules_begin_editing (by simp [recordKeepingBodies]))
  | setMissAction => exact .of_taken h (s.keepsRules_begin_editing (by simp [recordKeepingBodies]))
  | verifyBank => exact .of_taken h (State.keepsRules_begin_reading verifyBankBody_reads s)
  | openBank => exact .of_taken h (s.keepsRules_begin_editing (by simp [recordKeepingBodies]))
  | selectBank => exact .of_taken h (s.keepsRules_begin_editing (by simp [recordKeepingBodies]))
  | clearHitCounts => exact .of_taken h (s.keepsRules_begin_editing (by simp [recordKeepingBodies]))
  | tapEnable => exact .of_taken h (State.keepsRules_begin State.operates_tapEnableBody s)
  | tapDisable => exact .of_taken h (State.keepsRules_begin State.operates_tapDisableBody s)
  | tapRecover => exact .of_taken h (State.keepsRules_begin State.operates_tapRecoverBody s)
  | setTapLines => exact .of_taken h (State.keepsRules_begin State.operates_setTapLinesBody s)
  | readTapStatus => exact .of_taken h (State.keepsRules_begin_reading readTapStatusBody_reads s)
  | setWatch => exact .of_taken h (s.keepsRules_begin_editing (by simp [recordKeepingBodies]))
  | disarmWatch => exact .of_taken h (s.keepsRules_begin_editing (by simp [recordKeepingBodies]))
  | readWatch => exact .of_taken h (State.keepsRules_begin_reading readWatchBody_reads s)
  | releaseHold => exact .of_taken h (State.keepsRules_begin State.operates_releaseHoldBody s)
  | discardHold => exact .of_taken h (State.keepsRules_begin State.operates_discardHoldBody s)
  | readHeldRequest => exact .of_taken h (State.keepsRules_begin_reading readHeldRequestBody_reads s)
  | readAttention =>
    exact .of_taken h (State.keepsRules_begin (fun u ws => (u.keepsRecords_readAttentionBody ws).operates) s)
  | clearAttention => exact .of_taken h (s.keepsRules_begin_editing (by simp [recordKeepingBodies]))
  | setAttentionEnables =>
    exact .of_taken h (State.keepsRules_begin (fun u ws => (u.keepsRecords_setAttentionEnablesBody ws).operates) s)
  | acknowledgeAttention =>
    exact .of_taken h (State.keepsRules_begin (fun u ws => (u.keepsRecords_acknowledgeAttentionBody ws).operates) s)
  | setParameter =>
    exact .of_taken h (State.keepsRules_begin (fun u ws => (u.keepsRecords_setParameterBody ws).operates) s)
  | readParameter => exact .of_taken h (State.keepsRules_begin_reading readParameterBody_reads s)
  | branchReset => exact .of_taken h (s.keepsRules_begin_editing (by simp [recordKeepingBodies]))

theorem State.keepsRules_tick (s : State) : s.KeepsRules s.tick where
  placed hs := hs.tick
  toKeepsLedger := by
    unfold State.tick
    split
    · exact .refl s
    · refine .of_trans ⟨rfl, rfl, rfl⟩ fun i r hr => ?_
      simp only [State.transAt, Fin.getElem_fin, Vector.getElem_map] at hr
      obtain ⟨q, hq, rfl⟩ := Option.map_eq_some_iff.1 hr
      refine ⟨q, hq, ?_⟩
      unfold TransRecord.step
      split <;> rfl

theorem State.keepsRules_step {s t : State} (h : step s = .next t) : s.KeepsRules t := by
  unfold step at h
  split at h
  · cases h
    exact s.keepsRules_tick
  next c rest _ =>
    have hqueue : s.KeepsRecords { s with pending := rest } := ⟨rfl, rfl, rfl⟩
    exact hqueue.rules.trans (State.keepsRules_exec h)

/-- Settles O54: a new record has a tag that is not in use, and every other event leaves a record its tag or frees it. -/
theorem stepKeepsTagsDiffer : Obligations.StepKeepsTagsDiffer :=
  fun _ _ hs h => (State.keepsRules_step h).tags hs

/-- Settles O58: each event of a tap keeps the queues, and leaves its tap in the state that fits what is left in them. -/
theorem stepKeepsRecordsPlaced : Obligations.StepKeepsRecordsPlaced :=
  fun _ _ hs he h => State.placed_none_iff.1 ((State.keepsRules_step h).placed (State.placed_none_iff.2 ⟨hs, he⟩))

/-- Settles O59: a record enters the queue WAITING, is begun and ended at its head, and leaves by its answer. -/
theorem stepKeepsMgmtPlaced : Obligations.StepKeepsMgmtPlaced :=
  fun _ _ hs h => (State.keepsRules_step h).mgmt hs

end Sys2Proof.Machine

/-! ## The ends of records -/

namespace Sys2Proof.Machine

/-! ### Branch Reset (R146) -/

/-- Settles O50: the body of Branch Reset leaves the records alone, so that it is answered in the state it leaves. -/
theorem branchResetAnswersFirst : Obligations.BranchResetAnswersFirst :=
  fun _ _ _ h => State.taken_done h rfl ⟨_, rfl, rfl, rfl⟩

/-! ### The answers that the arbiter sends (R60, R181, R182) -/

/-- A transaction record's answer that is sent leaves its record free and its bank's reference gone (R59, R60, R61). -/
theorem State.localSent_eq {s : State} {i : Fin 16} {rest : List (Fin 16)} {r : TransRecord}
    (hr : s.transAt i = some r) (u : Up) :
    s.localSent i rest u = { s.transmitUp u with
      records := { s.records with trans := s.records.trans.set i none, localResponses := rest }
      windows := s.windows.setBank r.bank { s.bank r.bank with refs := (s.bank r.bank).refs - 1 }
      pointer := .refusals } := by
  have hr' : (s.transmitUp u).transAt i = some r := hr
  unfold State.localSent State.freeRecord
  rw [hr']
  rfl

theorem State.arbitrate_localResponses {s : State} (hpacket : s.attention.packet = none)
    (hchosen : s.chosen? = some .localResponses) : s.arbitrate = s.sendLocalResponse := by
  simp only [State.arbitrate, hpacket, hchosen]

theorem State.arbitrate_mgmtResponses {s : State} (hpacket : s.attention.packet = none)
    (hchosen : s.chosen? = some .mgmtResponses) : s.arbitrate = s.sendMgmtResponse := by
  simp only [State.arbitrate, hpacket, hchosen]

/-- Only an OK answer of a pending Branch Reset sets the reset off (R147). -/
theorem State.endsReset_eq_false {s : State} {r : MgmtRecord} {a : MgmtAnswer}
    (h : s.mgmt.resetPending = false ∨ r.operation ≠ 0x7E ∨ a.code ≠ .ok) : s.endsReset r a = false := by
  obtain h | h | h := h
  · simp [State.endsReset, h]
  · have hop : r.operation ≠ Op.branchReset.code := h
    simp [State.endsReset, hop]
  · simp [State.endsReset, h]

/-- Settles O20: the sending of an answer is its record's last use, so that the record is freed in that event. -/
theorem arbiterSendsAnswersAndFreesRecords : Obligations.ArbiterSendsAnswersAndFreesRecords := by
  intro s hsend hpacket
  rw [State.exec_arbiterSend hsend]
  refine ⟨fun i r code rest hchosen hq hr hcode => ?_, fun i r a rest hchosen hq hr ha hreset => ?_⟩
  · rw [State.arbitrate_localResponses hpacket hchosen, State.sendLocalResponse_eq hq hr, State.localSent_eq hr,
      TransRecord.packet, hcode]
    rfl
  · rw [State.arbitrate_mgmtResponses hpacket hchosen, State.sendMgmtResponse_eq hq hr ha,
      State.endsReset_eq_false hreset]
    rfl

/-! ### The answers to a whole queue (R51) -/

theorem State.RecordsPlaced.queued {s : State} (hs : s.RecordsPlaced) : s.Queued := by
  obtain ⟨hqueue, hresponses, honce, horphan, htap⟩ := hs
  exact ⟨hqueue, hresponses, honce, horphan, fun k => (htap k).1, fun k => (htap k).2.1⟩

theorem State.RecordsPlaced.queue_of_disabled {s : State} (hs : s.RecordsPlaced) {k : Fin 4}
    (hst : (s.tap k).state = .disabled) : (s.tap k).queue = [] := by
  obtain ⟨-, -, -, -, htap⟩ := hs
  obtain ⟨-, -, -, -, hhead⟩ := htap k
  simpa only [hst] using hhead

theorem State.ExchangesAgree.retryTimer {s : State} (hs : s.ExchangesAgree) {k : Fin 4}
    (hst : (s.tap k).state ≠ .retryWait) : (s.tap k).retryTimer = none := by
  obtain ⟨-, hretry, -⟩ := hs k
  simpa using mt hretry.1 hst

/-- Every record of a tap is answered, in queue order (R51). -/
theorem State.Queued.answerAll_eq {s : State} (hs : s.Queued) (k : Fin 4) (code : Code) :
    ∃ tr : Vector (Option TransRecord) 16,
      s.answerAll (s.tap k).queue code = { s with
        records := { s.records with trans := tr, localResponses := s.records.localResponses ++ (s.tap k).queue }
        taps := s.taps.set k { s.tap k with queue := [] } }
      ∧ ∀ j : Fin 16, tr[j] =
        if j ∈ (s.tap k).queue then (s.transAt j).map (fun x => x.answeredWith code none) else s.transAt j := by
  refine State.answerAll_queue rfl (hs.nodup k) (fun i hi => ?_) code
  obtain ⟨r, hr, hk, -⟩ := hs.record hi
  exact ⟨r, hr, hk⟩

/-! ### Tap Disable (R86, R87) -/

/-- Every record of a tap is answered TAP_DISABLED, and the tap is DISABLED with its retry timer stopped (R86, R87). -/
theorem State.Queued.disableAtOnce_eq {s : State} (hs : s.Queued) (k : Fin 4) :
    ∃ tr : Vector (Option TransRecord) 16,
      s.disableAtOnce k = { s with
        records := { s.records with trans := tr, localResponses := s.records.localResponses ++ (s.tap k).queue }
        taps := s.taps.set k { s.tap k with state := .disabled, queue := [], retryTimer := none } }
      ∧ ∀ j : Fin 16, tr[j] =
        if j ∈ (s.tap k).queue then (s.transAt j).map (fun x => x.answeredWith .tapDisabled none) else s.transAt j := by
  obtain ⟨tr, h, htr⟩ := hs.answerAll_eq k .tapDisabled
  refine ⟨tr, ?_, htr⟩
  rw [State.disableAtOnce, h]
  simp [State.modTap]

/-- A DISABLED tap has nothing left to disable (R88). -/
theorem State.disableAtOnce_of_disabled {s : State} {k : Fin 4} (hst : (s.tap k).state = .disabled)
    (hq : (s.tap k).queue = []) (hretry : (s.tap k).retryTimer = none) : s.disableAtOnce k = s := by
  have htap : ({ s.tap k with state := .disabled, retryTimer := none } : Tap) = s.tap k := by rw [← hst, ← hretry]
  rw [State.disableAtOnce, hq]
  show ({ s with taps := s.taps.set k { s.tap k with state := .disabled, retryTimer := none } } : State) = s
  rw [htap]
  simp [State.tap]

theorem tapDisableBody_issued {s : State} {k : Fin 4} (hst : (s.tap k).state = .issued) :
    tapDisableBody s [one k.val] = .span (s.modTap k fun p => { p with disablePending := true }) := by
  simp only [tapDisableBody, index?_tap, hst]

theorem tapDisableBody_not_issued {s : State} {k : Fin 4} (hs : s.RecordsPlaced) (he : s.ExchangesAgree)
    (hst : (s.tap k).state ≠ .issued) : tapDisableBody s [one k.val] = .done [one 0] (s.disableAtOnce k) := by
  simp only [tapDisableBody, index?_tap]
  split
  next h => exact absurd h hst
  next h => rw [State.disableAtOnce_of_disabled h (hs.queue_of_disabled h) (he.retryTimer (by simp [h]))]
  all_goals rfl

/-- Settles O44: the disable of a tap that is not ISSUED is `State.disableAtOnce` in every state, DISABLED too. -/
theorem tapDisableAnswersTheQueueOrWaits : Obligations.TapDisableAnswersTheQueueOrWaits := by
  intro s i r hs he
  refine ⟨fun k h => ⟨fun hst => ?_, fun hst => ?_⟩, fun w hw h => ?_⟩
  · exact State.taken_span h rfl (tapDisableBody_issued (s := s.startMgmt i r) hst)
  · have hs' : (s.startMgmt i r).RecordsPlaced := hs
    obtain ⟨tr, hdone, htr⟩ := hs'.queued.disableAtOnce_eq k
    refine ⟨_, State.taken_done_kept h rfl ⟨_, tapDisableBody_not_issued hs' he hst, ?_, ?_, rfl⟩, ?_, ?_⟩
    all_goals rw [hdone]
    · rfl
    · exact htr
    · rfl
  · exact State.taken_refuse h rfl (by simp only [tapDisableBody, index?_none hw])

/-! ### The acknowledge timeout (R78) -/

/-- A tap without a pending disable faults: what is left in its queue is answered TAP_FAULT (R51, R78). -/
theorem State.faultTap_eq {s : State} {k : Fin 4} (hp : (s.tap k).disablePending = false) (hn : (s.tap k).queue.Nodup)
    (hr : ∀ i ∈ (s.tap k).queue, ∃ r, s.transAt i = some r ∧ r.tap = k) :
    ∃ tr : Vector (Option TransRecord) 16,
      s.faultTap k = { s with
        records := { s.records with trans := tr, localResponses := s.records.localResponses ++ (s.tap k).queue }
        taps := s.taps.set k { s.tap k with state := .faulted, queue := [] } }
      ∧ ∀ j : Fin 16, tr[j] =
        if j ∈ (s.tap k).queue then (s.transAt j).map (fun x => x.answeredWith .tapFault none) else s.transAt j := by
  obtain ⟨tr, h, htr⟩ := State.answerAll_queue rfl hn hr .tapFault
  refine ⟨tr, ?_, htr⟩
  rw [State.faultTap, hp, if_neg (by simp), h]
  simp [State.modTap]

/-- The head record of a closed exchange ends by the timeout, and its tap faults (R51, R64, R78). -/
theorem State.faultTap_endIssued {s : State} {k : Fin 4} {i : Fin 16} {rest : List (Fin 16)} {r : TransRecord}
    (hs : s.Queued) (hq : (s.tap k).queue = i :: rest) (hr : s.transAt i = some r)
    (hp : (s.tap k).disablePending = false) :
    ∃ tr : Vector (Option TransRecord) 16,
      (s.endIssued k i r .tapTimeout none).faultTap k = { s with
        records := { s.records with
          trans := tr
          localResponses := s.records.localResponses ++ (if r.orphan then rest else i :: rest) }
        windows := if r.orphan then s.windows.setBank r.bank { s.bank r.bank with refs := (s.bank r.bank).refs - 1 }
          else s.windows
        taps := s.taps.set k { s.tap k with state := .faulted, queue := [] } }
      ∧ ∀ j : Fin 16, tr[j] =
        if j = i then (if r.orphan then none else some (r.answeredWith .tapTimeout none))
        else if j ∈ (s.tap k).queue then (s.transAt j).map (fun x => x.answeredWith .tapFault none)
        else s.transAt j := by
  obtain ⟨hirest, hnrest⟩ := List.nodup_cons.1 (hq ▸ hs.nodup k)
  have hk : r.tap = k := (hs.of_mem (by simp [hq]) hr).1
  have he := State.endIssued_head hq hr hk .tapTimeout none
  have htap : (s.endIssued k i r .tapTimeout none).tap k = { s.tap k with queue := rest } := by
    rw [he]
    simp [State.tap]
  have hself : (s.endIssued k i r .tapTimeout none).transAt i
      = if r.orphan then none else some (r.answeredWith .tapTimeout none) := by
    rw [he]
    simp [State.transAt]
  have hne : ∀ j, j ≠ i → (s.endIssued k i r .tapTimeout none).transAt j = s.transAt j := fun j hj => by
    rw [he]
    exact Vector.getElem_set_ne i.isLt j.isLt (Fin.val_ne_of_ne (Ne.symm hj))
  obtain ⟨tr, h, htr⟩ := State.faultTap_eq (s := s.endIssued k i r .tapTimeout none) (k := k) (by rw [htap]; exact hp)
    (by rw [htap]; exact hnrest) (fun j hj => by
      rw [htap] at hj
      obtain ⟨x, hx, hxk, -⟩ := hs.record (k := k) (i := j) (by rw [hq]; exact List.mem_cons_of_mem i hj)
      exact ⟨x, (hne j fun e => hirest (e ▸ hj)).trans hx, hxk⟩)
  rw [htap] at h htr
  refine ⟨tr, ?_, fun j => ?_⟩
  · rw [h, he]
    cases r.orphan <;> simp
  · rw [htr j]
    by_cases hj : j = i
    · subst hj
      rw [if_neg hirest, if_pos rfl, hself]
    · simp only [hj, hne j hj, hq, List.mem_cons, false_or, if_false]

/-- A tap whose acknowledge timer has expired, before its head record ends: the request is withdrawn and the timeout counted
(R72, R78). -/
def Tap.expired (p : Tap) : Tap :=
  { p.withdraw with counters := { p.withdraw.counters with timeouts := bump p.withdraw.counters.timeouts } }

/-- A tap whose acknowledge timer has expired without a pending disable, as the timeout leaves it (R78). -/
def Tap.timedOut (p : Tap) : Tap :=
  { p with
    state := .faulted, queue := [], ackTimer := none, presented := none, driving := false, rises := []
    transfers := p.transfersAtEnd
    counters := { p.counters with timeouts := bump p.counters.timeouts, late := p.lateAtEnd } }

/-- The acknowledge timeout without a pending disable: the head ends, every record behind it is answered TAP_FAULT, and the
tap's FAULT flag is set (R51, R64, R78, R114). -/
theorem State.timeOut_eq {s : State} {k : Fin 4} {i : Fin 16} {rest : List (Fin 16)} {r : TransRecord} (hs : s.Queued)
    (hq : (s.tap k).queue = i :: rest) (hr : s.transAt i = some r) (hp : (s.tap k).disablePending = false) :
    ∃ tr : Vector (Option TransRecord) 16,
      s.timeOut k = State.raiseFlag { s with
        records := { s.records with
          trans := tr
          localResponses := s.records.localResponses ++ (if r.orphan then rest else i :: rest) }
        windows := if r.orphan then s.windows.setBank r.bank { s.bank r.bank with refs := (s.bank r.bank).refs - 1 }
          else s.windows
        taps := s.taps.set k (s.tap k).timedOut } (faultFlag k)
      ∧ ∀ j : Fin 16, tr[j] =
        if j = i then (if r.orphan then none else some (r.answeredWith .tapTimeout none))
        else if j ∈ (s.tap k).queue then (s.transAt j).map (fun x => x.answeredWith .tapFault none)
        else s.transAt j := by
  have hclosed : (s.closeExchange k).modTap k (fun p =>
      { p with counters := { p.counters with timeouts := bump p.counters.timeouts } }) = s.modTap k Tap.expired := by
    simp [State.closeExchange, State.modTap, Tap.expired]
  have htap : (s.modTap k Tap.expired).tap k = (s.tap k).expired := s.tap_modTap_self k _
  obtain ⟨tr, h, htr⟩ := State.faultTap_endIssued (s := s.modTap k Tap.expired) (r := r) (hs.modTap rfl)
    (by rw [htap]; exact hq) hr (by rw [htap]; exact hp)
  rw [htap] at h htr
  refine ⟨tr, ?_, htr⟩
  rw [State.timeOut, hq]
  simp only [hr]
  rw [hclosed, h, Tap.expired, Tap.withdraw_eq]
  simp only [State.modTap, Vector.set_set]
  rfl

theorem State.exec_ackTimeout {s : State} {k : Fin 4} (hlow : s.resetLow = false) (hst : (s.tap k).state = .issued)
    (htimer : (s.tap k).ackTimer = some 0) : exec (.ackTimeout k) s = .next (s.timeOut k) := by
  have hexec : exec (.ackTimeout k) s
      = s.taken (if (s.tap k).state = .issued ∧ Timer.due (s.tap k).ackTimer then s.timeOut k else s) := rfl
  rw [hexec, State.taken_of_released hlow, if_pos ⟨hst, (Timer.due_iff _).2 htimer⟩]

/-- Settles O32: what is behind the head is answered when the head has ended, so that the queue's order is the answers'. -/
theorem ackTimeoutFaultsTheTap : Obligations.AckTimeoutFaultsTheTap := by
  rintro s k i r ⟨hlow, hst, hhead, hr, -⟩ hs htimer hp ho
  obtain ⟨rest, hq⟩ := List.head?_eq_some_iff.1 hhead
  obtain ⟨tr, h, htr⟩ := State.timeOut_eq hs.queued hq hr hp
  simp only [ho, Bool.false_eq_true, if_false] at h htr
  obtain ⟨a, ha⟩ := State.raiseFlag_changes _ (faultFlag k)
  refine ⟨_, State.exec_ackTimeout hlow hst htimer, ?_⟩
  rw [h]
  refine ⟨State.flagRaised_raiseFlag _ _, ?_⟩
  rw [ha, hq]
  rw [hq] at htr
  exact ⟨htr, rfl, rfl⟩

/-! ### Orphans (R64) -/

/-- An orphan whose exchange is closed is freed, and its tap goes to IDLE, when no disable is pending (R64, R76). -/
theorem State.takeAck_orphan {s : State} {k : Fin 4} {i : Fin 16} {rest : List (Fin 16)} {r : TransRecord}
    (hq : (s.tap k).queue = i :: rest) (hr : s.transAt i = some r) (ho : r.orphan = true)
    (hp : (s.tap k).disablePending = false) (kind : AckKind) (words : List Word) :
    s.takeAck k kind words = { s with
      records := { s.records with trans := s.records.trans.set i none }
      windows := s.windows.setBank r.bank { s.bank r.bank with refs := (s.bank r.bank).refs - 1 }
      taps := s.taps.set k { (s.tap k).withdraw with state := .idle, queue := rest } } := by
  have htap : (s.closeExchange k).tap k = (s.tap k).withdraw := s.tap_modTap_self k _
  have hpending : (s.tap k).withdraw.disablePending = false := hp
  have hfree := State.freeRecord_head (s := s.closeExchange k) (r := r) (by rw [htap]; exact hq) hr
  rw [State.takeAck_ends hq hr (code := .ok) (.inl ho), State.endIssued, if_pos ho, hfree, htap, State.leaveIssued,
    if_neg (by simpa [State.tap] using hpending)]
  simp [State.closeExchange, State.modTap, State.bank]

/-- An acknowledge that the part looks at on an ISSUED tap is taken, unless it is a DONE for a READ (R76, R191). -/
theorem State.takeStrobe_taken {s : State} {k : Fin 4} (hst : (s.tap k).state = .issued) {a : BitVec 2}
    (h : ackKind a = .done → ∀ q, (s.tap k).presented = some q → q.kind ≠ .read) :
    ∃ kind, s.takeStrobe k a = s.takeAck k kind [] := by
  unfold State.takeStrobe
  rw [if_neg (not_not.2 hst)]
  split
  next q hdone hpresented => exact ⟨_, if_neg (h hdone q hpresented)⟩
  · exact ⟨_, rfl⟩

/-- The last byte of the DONE of an orphan frees it; every other transfer that ends with the byte is late (R64, R73, R79). -/
theorem State.takeByte_orphan {s : State} {k : Fin 4} {i : Fin 16} {rest : List (Fin 16)} {r : TransRecord}
    (hst : (s.tap k).state = .issued) (hq : (s.tap k).queue = i :: rest) (hr : s.transAt i = some r)
    (ho : r.orphan = true) (hp : (s.tap k).disablePending = false) {b : Byte} (hended : (s.tap k).endedBy b ≠ []) :
    s.takeByte k b = { s with
      records := { s.records with trans := s.records.trans.set i none }
      windows := s.windows.setBank r.bank { s.bank r.bank with refs := (s.bank r.bank).refs - 1 }
      taps := s.taps.set k { (s.tap k).afterDone b with state := .idle, queue := rest } } := by
  obtain ⟨x, late, hx⟩ := List.exists_cons_of_ne_nil hended
  let c := s.modTap k fun p => { p with transfers := (s.tap k).goingAfter b }
  have htap : c.tap k = { s.tap k with transfers := (s.tap k).goingAfter b } := s.tap_modTap_self k _
  have hdone : c.takeDone k x = { s with
      records := { s.records with trans := s.records.trans.set i none }
      windows := s.windows.setBank r.bank { s.bank r.bank with refs := (s.bank r.bank).refs - 1 }
      taps := s.taps.set k { ({ s.tap k with transfers := (s.tap k).goingAfter b } : Tap).withdraw with
        state := .idle, queue := rest } } := by
    rw [State.takeDone, if_pos (by rw [htap]; exact hst), State.takeAck_orphan (s := c) (by rw [htap]; exact hq) hr ho
      (by rw [htap]; exact hp), htap]
    simp only [c, State.modTap, Vector.set_set]
    rfl
  rw [State.takeByte_of_ne_idle (by simp [hst]), hx, List.foldl_cons, hdone,
    State.takeDones_late k late _ (by simp [State.tap]), Tap.withdraw_eq, Tap.afterDone, hx]
  simp only [State.modTap, Fin.getElem_fin, Vector.getElem_set_self, Vector.set_set]
  rfl

/-- A tap that listens is changed by its exchange's end in its timer and its request alone (R72, R191). -/
theorem Tap.withdraw_of_listening {s : State} {k : Fin 4} (h : s.Listening k) :
    (s.tap k).withdraw = { s.tap k with ackTimer := none, presented := none } := by
  obtain ⟨hdriving, hrises⟩ := h
  rw [Tap.withdraw_of_rises _ hrises]
  simp [hdriving, hrises]

theorem State.exec_strobe {s : State} {k : Fin 4} (hlow : s.resetLow = false) (hlisten : s.Listening k) (a : BitVec 2) :
    exec (.tapAcknowledge k (.strobe a)) s = .next (s.takeStrobe k a) := by
  have hexec : exec (.tapAcknowledge k (.strobe a)) s = s.taken (s.riseOfAck k a) := rfl
  rw [hexec, State.taken_of_released hlow, State.riseOfAck, if_neg (by simp [hlisten.1])]

/-- Settles O34: whatever its code, an acknowledge frees an orphan, and the rest of the event is that of any record. -/
theorem orphanIsFreedWithoutAnAnswer : Obligations.OrphanIsFreedWithoutAnAnswer := by
  rintro s k i r ⟨hlow, hst, hhead, hr, -⟩ hs hp ho
  obtain ⟨rest, hq⟩ := List.head?_eq_some_iff.1 hhead
  refine ⟨fun a hlisten ha => ?_, fun b hended => ?_, fun htimer => ?_⟩
  · have htaken : ackKind a = .done → ∀ q, (s.tap k).presented = some q → q.kind ≠ .read := by
      obtain rfl | rfl | rfl | ⟨-, x, hx, hwrite⟩ := ha
      · simp [ackKind]
      · simp [ackKind]
      · simp [ackKind]
      · intro _ q hpresented
        cases hx.symm.trans hpresented
        simp [hwrite]
    obtain ⟨kind, h⟩ := State.takeStrobe_taken hst htaken
    rw [State.exec_strobe hlow hlisten, h, State.takeAck_orphan hq hr ho hp, Tap.withdraw_of_listening hlisten, hq]
    rfl
  · have hexec : exec (.tapAcknowledge k (.dataByte b)) s = s.taken (s.takeByte k b) := rfl
    rw [hexec, State.taken_of_released hlow, State.takeByte_orphan hst hq hr ho hp hended, hq]
    rfl
  · obtain ⟨tr, h, htr⟩ := State.timeOut_eq hs.queued hq hr hp
    simp only [ho, if_true] at h htr
    obtain ⟨a, ha⟩ := State.raiseFlag_changes _ (faultFlag k)
    refine ⟨_, State.exec_ackTimeout hlow hst htimer, ?_⟩
    rw [h]
    refine ⟨State.flagRaised_raiseFlag _ _, ?_⟩
    rw [ha, hq]
    rw [hq] at htr
    exact ⟨htr, rfl⟩

end Sys2Proof.Machine

/-! ## Tap ports: the end of an exchange -/

namespace Sys2Proof.Machine

/-! ### Acknowledges and bytes that end an exchange (R73, R76, R79, R191) -/

theorem State.exec_dataByte {s : State} (hlow : s.resetLow = false) (k : Fin 4) (b : Byte) :
    exec (.tapAcknowledge k (.dataByte b)) s = .next (s.takeByte k b) := by
  have hexec : exec (.tapAcknowledge k (.dataByte b)) s = s.taken (s.takeByte k b) := rfl
  rw [hexec, State.taken_of_released hlow]

/-- An acknowledge that the part looks at on an ISSUED tap is taken by its kind, unless it is a DONE for a READ
(R76, R191). -/
theorem State.takeStrobe_of_issued {s : State} {k : Fin 4} (hst : (s.tap k).state = .issued) {a : BitVec 2}
    (h : ackKind a = .done → ∀ q, (s.tap k).presented = some q → q.kind = .write) :
    s.takeStrobe k a = s.takeAck k (ackKind a) [] := by
  unfold State.takeStrobe
  rw [if_neg (not_not.2 hst)]
  split
  next q hdone hpresented => rw [if_neg (by simp [h hdone q hpresented]), hdone]
  · rfl

/-- A DONE for a READ that the part looks at on an ISSUED tap begins a transfer (R73, R191). -/
theorem State.takeStrobe_of_read {s : State} {k : Fin 4} {q : TapRequest} (hst : (s.tap k).state = .issued)
    (hpresented : (s.tap k).presented = some q) (hread : q.kind = .read) :
    s.takeStrobe k 0 = s.startTransfer k q.length := by
  unfold State.takeStrobe
  rw [if_neg (not_not.2 hst), hpresented]
  exact if_pos hread

/-- The words whose bytes a transfer has taken, most significant first, are read back (R191). -/
theorem wordsOfBytes_flatMap_wordBytes (words : List Word) : wordsOfBytes (words.flatMap wordBytes) = words := by
  induction words with
  | nil => rfl
  | cons w rest ih =>
    have hw : (w.extractLsb' 24 8 ++ w.extractLsb' 16 8 ++ w.extractLsb' 8 8 ++ w.extractLsb' 0 8 : BitVec 32) = w := by
      ext i hi
      simp
      grind
    exact congrArg₂ List.cons hw ih

/-- A tap at which the transfers that a data byte does not end go on (R191). -/
def Tap.goOn (p : Tap) (b : Byte) : Tap := { p with transfers := p.goingAfter b }

/-- A tap with n more late acknowledges counted (R79). -/
def Tap.addLate (p : Tap) (n : Nat) : Tap :=
  { p with counters := { p.counters with late := addCount p.counters.late n } }

/-- A tap left by the last byte of a DONE: its exchange is closed, and every other transfer that the byte ends is late
(R73, R76, R79). -/
theorem Tap.afterDone_eq {p : Tap} {b : Byte} {x : Transfer} {others : List Transfer} (h : p.endedBy b = x :: others) :
    p.afterDone b = (p.goOn b).withdraw.addLate others.length := by
  rw [Tap.withdraw_eq, Tap.afterDone, h]
  rfl

/-- The byte that ends a transfer of an ISSUED tap: the oldest that it ends is taken, and every other is late (R73, R79). -/
theorem State.takeByte_of_endedBy {s : State} {k : Fin 4} {b : Byte} {x : Transfer} {others : List Transfer}
    (hst : (s.tap k).state = .issued) (hended : (s.tap k).endedBy b = x :: others)
    (hdone : (((s.modTap k fun p => p.goOn b).takeAck k .done (wordsOfBytes x.got)).tap k).state ≠ .issued) :
    s.takeByte k b = ((s.modTap k fun p => p.goOn b).takeAck k .done (wordsOfBytes x.got)).modTap k fun p =>
      p.addLate others.length := by
  have hissued : ((s.modTap k fun p => p.goOn b).tap k).state = .issued := by simpa [Tap.goOn] using hst
  have htaken : (s.modTap k fun p => p.goOn b).takeDone k x
      = (s.modTap k fun p => p.goOn b).takeAck k .done (wordsOfBytes x.got) := if_pos hissued
  rw [State.takeByte_of_ne_idle (by simp [hst]), hended, List.foldl_cons]
  exact (congrArg (List.foldl _ · others) htaken).trans (State.takeDones_late k others _ hdone)

/-! ### A pending disable (R89) -/

/-- The state after the issued record of tap k, whose fields are r, has ended while a disable was pending: `tr` are the
transaction records, `p` is the tap as the end of the exchange left it, and m is the Tap Disable's record, whose fields are x
(R64, R65, R89). -/
def State.disableEnded (s : State) (k : Fin 4) (r : TransRecord) (m : Fin 3) (x : MgmtRecord)
    (tr : Vector (Option TransRecord) 16) (p : Tap) : State :=
  { s with
    records := { s.records with
      trans := tr
      localResponses := s.records.localResponses ++ (if r.orphan then (s.tap k).queue.tail else (s.tap k).queue)
      mgmt := s.records.mgmt.set m (if x.orphan then none
        else some { x with state := .answered, answer := some { code := .ok, result := [1] } })
      mgmtQueue := s.records.mgmtQueue.tail
      mgmtResponses := if x.orphan then s.records.mgmtResponses else s.records.mgmtResponses ++ [m] }
    windows := if r.orphan then s.windows.setBank r.bank { s.bank r.bank with refs := (s.bank r.bank).refs - 1 }
      else s.windows
    taps := s.taps.set k { p with state := .disabled, disablePending := false, queue := [] } }

/-- Transaction record j after the issued record i of tap k has ended by `code` with a disable pending (R64, R89). -/
def State.recordAfterDisable (s : State) (k : Fin 4) (i : Fin 16) (r : TransRecord) (code : Code)
    (data : Option (List Word)) (j : Fin 16) : Option TransRecord :=
  if j = i then (if r.orphan then none else some (r.answeredWith code data))
  else if j ∈ (s.tap k).queue then (s.transAt j).map (fun y => y.answeredWith .tapDisabled none)
  else s.transAt j

theorem State.disableEnded_modTap (s : State) {k : Fin 4} {f : Tap → Tap}
    (hf : (f (s.tap k)).queue = (s.tap k).queue) (r : TransRecord) (m : Fin 3) (x : MgmtRecord)
    (tr : Vector (Option TransRecord) 16) (p : Tap) :
    (s.modTap k f).disableEnded k r m x tr p = s.disableEnded k r m x tr p := by
  simp only [State.disableEnded, State.tap_modTap_self, hf]
  simp [State.modTap, State.bank]

theorem State.modTap_disableEnded (s : State) (k : Fin 4) (r : TransRecord) (m : Fin 3) (x : MgmtRecord)
    (tr : Vector (Option TransRecord) 16) (p : Tap) (n : Nat) :
    (s.disableEnded k r m x tr p).modTap k (fun p => p.addLate n) = s.disableEnded k r m x tr (p.addLate n) := by
  simp [State.disableEnded, State.modTap, Tap.addLate]

theorem State.recordAfterDisable_modTap (s : State) {k : Fin 4} {f : Tap → Tap}
    (hf : (f (s.tap k)).queue = (s.tap k).queue) (i : Fin 16) (r : TransRecord) (code : Code)
    (data : Option (List Word)) :
    (s.modTap k f).recordAfterDisable k i r code data = s.recordAfterDisable k i r code data := by
  funext j
  simp only [State.recordAfterDisable, State.tap_modTap_self, hf]
  rfl

/-- The end of the issued record keeps the table and the queues in agreement (R51, R64). -/
theorem State.Queued.endIssued {s : State} (hs : s.Queued) {i : Fin 16} {r : TransRecord} (hr : s.transAt i = some r)
    (hopen : r.state ≠ .answered) (code : Code) (data : Option (List Word)) :
    (s.endIssued r.tap i r code data).Queued := by
  unfold State.endIssued
  split
  next ho => exact hs.free hr hopen
  next ho => exact hs.answer hr hopen (by simpa using ho) code data

/-- The end of the issued record takes it off its tap's queue, and leaves the rest of the tap (R51, R64). -/
theorem State.tap_endIssued {s : State} {k : Fin 4} {i : Fin 16} {rest : List (Fin 16)} {r : TransRecord}
    (hq : (s.tap k).queue = i :: rest) (hr : s.transAt i = some r) (hk : r.tap = k) (code : Code)
    (data : Option (List Word)) : (s.endIssued k i r code data).tap k = { s.tap k with queue := rest } := by
  rw [State.endIssued_head hq hr hk]
  simp [State.tap]

/-- The head record of a closed exchange ends, and the pending disable completes: what was behind the head is answered
TAP_DISABLED, and the Tap Disable itself is answered (R51, R64, R65, R89). -/
theorem State.completeDisable_endIssued {s : State} {k : Fin 4} {i : Fin 16} {rest : List (Fin 16)} {r : TransRecord}
    {m : Fin 3} {x : MgmtRecord} (hs : s.Queued) (hq : (s.tap k).queue = i :: rest) (hr : s.transAt i = some r)
    (hm : s.InProgress m x .tapDisable) (code : Code) (data : Option (List Word)) :
    ∃ tr, (s.endIssued k i r code data).completeDisable k = s.disableEnded k r m x tr (s.tap k)
      ∧ ∀ j : Fin 16, tr[j] = s.recordAfterDisable k i r code data j := by
  obtain ⟨hk, hopen⟩ := hs.of_mem (k := k) (by simp [hq]) hr
  have he := State.endIssued_head hq hr hk code data
  have htap := State.tap_endIssued hq hr hk code data
  obtain ⟨tr, h, htr⟩ := (hk ▸ hs.endIssued hr hopen code data : (s.endIssued k i r code data).Queued).answerAll_eq k
    .tapDisabled
  rw [htap] at h htr
  refine ⟨tr, ?_, fun j => ?_⟩
  · rw [State.completeDisable, htap, h, State.finishExecuting_head (m := m) (x := x)]
    · rw [he]
      cases ho : r.orphan <;> simp [State.disableEnded, State.modTap, one, hq, ho]
    · rw [he]
      exact hm
  · have hirest : i ∉ rest := (List.nodup_cons.1 (hq ▸ hs.nodup k)).1
    rw [htr j, State.recordAfterDisable]
    by_cases hj : j = i
    · subst hj
      rw [if_neg hirest, if_pos rfl, he]
      simp [State.transAt]
    · have hkept : (s.endIssued k i r code data).transAt j = s.transAt j := by
        rw [he]
        exact Vector.getElem_set_ne i.isLt j.isLt (Fin.val_ne_of_ne (Ne.symm hj))
      simp only [hj, hkept, hq, List.mem_cons, false_or, if_false]

/-- The same, where `f` closes the exchange of a tap whose disable is pending (R72, R89). -/
theorem State.completeDisable_closed {s : State} {k : Fin 4} {i : Fin 16} {rest : List (Fin 16)} {r : TransRecord}
    {m : Fin 3} {x : MgmtRecord} {f : Tap → Tap} (hs : s.Queued) (hq : (s.tap k).queue = i :: rest)
    (hr : s.transAt i = some r) (hm : s.InProgress m x .tapDisable) (hp : (s.tap k).disablePending = true)
    (hf : (f (s.tap k)).queue = (s.tap k).queue) (hfp : (f (s.tap k)).disablePending = (s.tap k).disablePending)
    (code : Code) (data : Option (List Word)) :
    (((s.modTap k f).endIssued k i r code data).tap k).disablePending = true ∧
      ∃ tr, ((s.modTap k f).endIssued k i r code data).completeDisable k = s.disableEnded k r m x tr (f (s.tap k))
        ∧ ∀ j : Fin 16, tr[j] = s.recordAfterDisable k i r code data j := by
  have hqueue : ((s.modTap k f).tap k).queue = i :: rest := by rw [State.tap_modTap_self, hf, hq]
  refine ⟨?_, ?_⟩
  · rw [State.tap_endIssued hqueue hr (hs.of_mem (by simp [hq]) hr).1, State.tap_modTap_self]
    exact hfp.trans hp
  · obtain ⟨tr, h, htr⟩ := State.completeDisable_endIssued (s := s.modTap k f) (hs.modTap hf) hqueue hr hm code data
    rw [s.recordAfterDisable_modTap hf] at htr
    rw [s.disableEnded_modTap hf, State.tap_modTap_self] at h
    exact ⟨tr, h, htr⟩

/-- An acknowledge that ends the issued record while a disable is pending (R64, R76, R89). -/
theorem State.takeAck_disableEnded {s : State} {k : Fin 4} {i : Fin 16} {rest : List (Fin 16)} {r : TransRecord}
    {m : Fin 3} {x : MgmtRecord} (hs : s.Queued) (hq : (s.tap k).queue = i :: rest) (hr : s.transAt i = some r)
    (hm : s.InProgress m x .tapDisable) (hp : (s.tap k).disablePending = true) {kind : AckKind} {code : Code}
    (hcode : ackCode kind true r.retryCount s.mgmt.params.retryLimit = some code) (words : List Word) :
    ∃ tr, s.takeAck k kind words = s.disableEnded k r m x tr (s.tap k).withdraw
      ∧ ∀ j : Fin 16, tr[j]
        = s.recordAfterDisable k i r code (if r.kind = .read ∧ code = .ok then some words else none) j := by
  obtain ⟨hpending, tr, h, htr⟩ := State.completeDisable_closed (f := Tap.withdraw) hs hq hr hm hp rfl rfl code
    (if r.kind = .read ∧ code = .ok then some words else none)
  exact ⟨tr, (State.takeAck_ends hq hr (.inr (hp ▸ hcode)) words).trans ((if_pos hpending).trans h), htr⟩

/-- The last byte of the DONE of a READ ends the issued record while a disable is pending (R64, R73, R79, R89). -/
theorem State.takeByte_disableEnded {s : State} {k : Fin 4} {i : Fin 16} {rest : List (Fin 16)} {r : TransRecord}
    {m : Fin 3} {x : MgmtRecord} (hs : s.Queued) (hst : (s.tap k).state = .issued) (hq : (s.tap k).queue = i :: rest)
    (hr : s.transAt i = some r) (hm : s.InProgress m x .tapDisable) (hp : (s.tap k).disablePending = true)
    (hread : r.kind = .read) {b : Byte} {y : Transfer} {others : List Transfer}
    (hended : (s.tap k).endedBy b = y :: others) :
    ∃ tr, s.takeByte k b = s.disableEnded k r m x tr ((s.tap k).afterDone b)
      ∧ ∀ j : Fin 16, tr[j] = s.recordAfterDisable k i r .ok (some (wordsOfBytes y.got)) j := by
  have htap : (s.modTap k fun p => p.goOn b).tap k = (s.tap k).goOn b := s.tap_modTap_self k _
  obtain ⟨tr, h, htr⟩ := State.takeAck_disableEnded (s := s.modTap k fun p => p.goOn b) (kind := .done) (code := .ok)
    (hs.modTap rfl) (by rw [htap]; exact hq) hr hm (by rw [htap]; exact hp) rfl (wordsOfBytes y.got)
  rw [if_pos ⟨hread, rfl⟩, s.recordAfterDisable_modTap rfl] at htr
  rw [htap, s.disableEnded_modTap rfl] at h
  refine ⟨tr, ?_, htr⟩
  rw [State.takeByte_of_endedBy hst hended, h, s.modTap_disableEnded, Tap.afterDone_eq hended]
  simp [h, State.disableEnded, State.tap]

/-- The acknowledge timeout while a disable is pending: the tap goes to DISABLED, and its FAULT flag is set (R64, R78, R89,
R114). -/
theorem State.timeOut_disableEnded {s : State} {k : Fin 4} {i : Fin 16} {rest : List (Fin 16)} {r : TransRecord}
    {m : Fin 3} {x : MgmtRecord} (hs : s.Queued) (hq : (s.tap k).queue = i :: rest) (hr : s.transAt i = some r)
    (hm : s.InProgress m x .tapDisable) (hp : (s.tap k).disablePending = true) :
    ∃ tr, s.timeOut k = (s.disableEnded k r m x tr (s.tap k).expired).raiseFlag (faultFlag k)
      ∧ ∀ j : Fin 16, tr[j] = s.recordAfterDisable k i r .tapTimeout none j := by
  have hclosed : (s.closeExchange k).modTap k (fun p =>
      { p with counters := { p.counters with timeouts := bump p.counters.timeouts } }) = s.modTap k Tap.expired := by
    simp [State.closeExchange, State.modTap, Tap.expired]
  obtain ⟨hpending, tr, h, htr⟩ := State.completeDisable_closed (f := Tap.expired) hs hq hr hm hp rfl rfl .tapTimeout none
  refine ⟨tr, ?_, htr⟩
  rw [State.timeOut, hq]
  simp only [hr]
  rw [hclosed, State.faultTap, if_pos hpending, h]


/-- The acknowledges that carry no data, each with the code of R89's table by which it ends record r while a disable is
pending. -/
def TransRecord.PendingCode (r : TransRecord) (a : BitVec 2) (code : Code) : Prop :=
  (a = 0 ∧ r.kind = .write ∧ code = .ok) ∨ ((a = 1 ∨ a = 3) ∧ code = .deviceError) ∨ (a = 2 ∧ code = .tapDisabled)

/-- The table of R89 for an acknowledge that carries no data: the code is what the model fixes, and no data is kept. -/
theorem TransRecord.PendingCode.ackCode_eq {r : TransRecord} {a : BitVec 2} {code : Code} (h : r.PendingCode a code)
    (n limit : Nat) : ackCode (ackKind a) true n limit = some code ∧ ¬ (r.kind = .read ∧ code = .ok) := by
  obtain ⟨rfl, hwrite, rfl⟩ | ⟨rfl | rfl, rfl⟩ | ⟨rfl, rfl⟩ := h
  · exact ⟨rfl, by simp [hwrite]⟩
  all_goals exact ⟨rfl, by simp⟩

/-- None of these is a DONE for a READ. -/
theorem TransRecord.PendingCode.write {r : TransRecord} {a : BitVec 2} {code : Code} (h : r.PendingCode a code)
    (hdone : ackKind a = .done) : r.kind = .write := by
  obtain ⟨-, hwrite, -⟩ | ⟨rfl | rfl, -⟩ | ⟨rfl, -⟩ := h
  · exact hwrite
  all_goals simp [ackKind] at hdone

/-- Settles O33: each of the three ways out of ISSUED closes the exchange and then completes the disable
(`State.completeDisable_closed`). -/
theorem pendingDisableEndsWithTheExchange : Obligations.PendingDisableEndsWithTheExchange := by
  rintro s k i r q m x c code data ⟨hlow, hst, hhead, hr, -⟩ hs - hp hm hpresented hkind hends
  obtain ⟨rest, hq⟩ := List.head?_eq_some_iff.1 hhead
  have hways : (∃ a, s.Listening k ∧ c = .tapAcknowledge k (.strobe a) ∧ r.PendingCode a code ∧ data = none) ∨
      (∃ b y others, r.kind = .read ∧ code = .ok ∧ (s.tap k).endedBy b = y :: others ∧
        c = .tapAcknowledge k (.dataByte b) ∧ data = some (wordsOfBytes y.got)) ∨
      (c = .ackTimeout k ∧ (s.tap k).ackTimer = some 0 ∧ code = .tapTimeout ∧ data = none) := by
    obtain ⟨hlisten, hc, hwrite, hcode, hdata⟩ | ⟨hlisten, hc, hcode, hdata⟩ | ⟨hlisten, hc, hcode, hdata⟩ |
      ⟨hlisten, hc, hcode, hdata⟩ | ⟨hread, hcode, b, y, others, words, hended, hc, hdata, hgot⟩ | htimer := hends
    · exact .inl ⟨0, hlisten, hc, .inl ⟨rfl, hwrite, hcode⟩, hdata⟩
    · exact .inl ⟨1, hlisten, hc, .inr (.inl ⟨.inl rfl, hcode⟩), hdata⟩
    · exact .inl ⟨3, hlisten, hc, .inr (.inl ⟨.inr rfl, hcode⟩), hdata⟩
    · exact .inl ⟨2, hlisten, hc, .inr (.inr ⟨rfl, hcode⟩), hdata⟩
    · refine .inr (.inl ⟨b, y, others, hread, hcode, hended, hc, ?_⟩)
      rw [hdata, hgot]
      exact congrArg some (wordsOfBytes_flatMap_wordBytes words).symm
    · exact .inr (.inr htimer)
  obtain ⟨a, hlisten, rfl, hcode, rfl⟩ | ⟨b, y, others, hread, rfl, hended, rfl, rfl⟩ | ⟨rfl, htimer, rfl, rfl⟩ := hways
  · obtain ⟨hack, hnodata⟩ := hcode.ackCode_eq r.retryCount s.mgmt.params.retryLimit
    obtain ⟨tr, h, htr⟩ := State.takeAck_disableEnded hs.queued hq hr hm hp hack []
    rw [if_neg hnodata] at htr
    have hstrobe := State.takeStrobe_of_issued hst fun hdone z hz => by
      cases hz.symm.trans hpresented
      exact hkind.trans (hcode.write hdone)
    refine ⟨_, _, (State.exec_strobe hlow hlisten a).trans (congrArg _ (hstrobe.trans h)),
      fun _ _ => Tap.withdraw_of_listening hlisten, nofun, nofun, htr, rfl, rfl, fun _ => rfl, nofun⟩
  · obtain ⟨tr, h, htr⟩ := State.takeByte_disableEnded hs.queued hst hq hr hm hp hread hended
    refine ⟨_, _, (State.exec_dataByte hlow k b).trans (congrArg _ h), nofun, ?_, nofun, htr, rfl, rfl, fun _ => rfl,
      nofun⟩
    rintro b' hb
    cases hb
    rfl
  · obtain ⟨tr, h, htr⟩ := State.timeOut_disableEnded hs.queued hq hr hm hp
    obtain ⟨a, ha⟩ := State.raiseFlag_changes (s.disableEnded k r m x tr (s.tap k).expired) (faultFlag k)
    refine ⟨_, (s.tap k).expired, (State.exec_ackTimeout hlow hst htimer).trans (congrArg _ h), nofun, nofun, fun _ => ?_, ?_, ?_, ?_,
      fun hne => absurd rfl hne, fun _ => State.flagRaised_raiseFlag _ _⟩
    · rw [Tap.expired, Tap.withdraw_eq]
    all_goals rw [ha]
    · exact htr
    · rfl
    · rfl

end Sys2Proof.Machine

/-! ## Tap ports: acknowledges -/

namespace Sys2Proof.Machine

/-! ### Acknowledges of a record that is no orphan, with no disable pending (R76) -/

/-- An acknowledge with a code answers the head record, and the tap goes to IDLE (R51, R76). -/
theorem State.takeAck_answered {s : State} {k : Fin 4} {i : Fin 16} {rest : List (Fin 16)} {r : TransRecord}
    (hq : (s.tap k).queue = i :: rest) (hr : s.transAt i = some r) (hk : r.tap = k) (ho : r.orphan = false)
    (hp : (s.tap k).disablePending = false) {kind : AckKind} {code : Code}
    (hcode : ackCode kind false r.retryCount s.mgmt.params.retryLimit = some code) (words : List Word) :
    s.takeAck k kind words = (s.headAnswered k i r code (if r.kind = .read ∧ code = .ok then some words else none)).modTap
      k fun p => { p.withdraw with state := .idle } := by
  have htap : (s.closeExchange k).tap k = (s.tap k).withdraw := s.tap_modTap_self k _
  have hqueue : ((s.closeExchange k).tap k).queue = i :: rest := by rw [htap]; exact hq
  have hpending : ¬ (((s.closeExchange k).endIssued k i r code
      (if r.kind = .read ∧ code = .ok then some words else none)).tap k).disablePending = true := by
    rw [State.tap_endIssued hqueue hr hk, htap]
    exact (Bool.eq_false_iff).1 hp
  have hq' : s.taps[k.val].queue = i :: rest := hq
  rw [State.takeAck_ends hq hr (.inr (hp ▸ hcode)), State.leaveIssued, if_neg hpending,
    State.endIssued_head hqueue hr hk, htap]
  simp [ho, hq', State.headAnswered, State.closeExchange, State.modTap, State.tap, TransRecord.answeredWith]
  rfl

theorem State.modTap_congr {s : State} {k : Fin 4} {f g : Tap → Tap} (h : f (s.tap k) = g (s.tap k)) :
    s.modTap k f = s.modTap k g :=
  congrArg (fun p => ({ s with taps := s.taps.set k p } : State)) h

theorem State.modTap_modTap (s : State) (k : Fin 4) (f g : Tap → Tap) :
    (s.modTap k f).modTap k g = s.modTap k fun p => g (f p) := by
  simp [State.modTap]

theorem State.listening_headAnswered {s : State} {k : Fin 4} (h : s.Listening k) (i : Fin 16) (r : TransRecord)
    (code : Code) (data : Option (List Word)) : (s.headAnswered k i r code data).Listening k := by
  simpa [State.Listening, State.headAnswered, State.tap] using h

/-- The same, at a tap where no rise waits for TtD (R76, R191). -/
theorem State.takeAck_answered_of_listening {s : State} {k : Fin 4} {i : Fin 16} {rest : List (Fin 16)}
    {r : TransRecord} (hlisten : s.Listening k) (hq : (s.tap k).queue = i :: rest) (hr : s.transAt i = some r)
    (hk : r.tap = k) (ho : r.orphan = false) (hp : (s.tap k).disablePending = false) {kind : AckKind} {code : Code}
    (hcode : ackCode kind false r.retryCount s.mgmt.params.retryLimit = some code)
    (hnodata : ¬ (r.kind = .read ∧ code = .ok)) (words : List Word) :
    s.takeAck k kind words = (s.headAnswered k i r code none).modTap k fun p =>
      { p with state := .idle, ackTimer := none, presented := none } := by
  rw [State.takeAck_answered hq hr hk ho hp hcode, if_neg hnodata]
  refine State.modTap_congr ?_
  rw [Tap.withdraw_of_listening (State.listening_headAnswered hlisten i r code none)]

/-- A RETRY below the limit sends the record and its tap to RETRY_WAIT (R76). -/
theorem State.takeAck_retry_of_listening {s : State} {k : Fin 4} {i : Fin 16} {rest : List (Fin 16)} {r : TransRecord}
    (hlisten : s.Listening k) (hq : (s.tap k).queue = i :: rest) (hr : s.transAt i = some r) (ho : r.orphan = false)
    (hp : (s.tap k).disablePending = false) (hbelow : r.retryCount < s.mgmt.params.retryLimit) (words : List Word) :
    s.takeAck k .retry words =
      (s.setTrans i (some { r with state := .retryWait, retryCount := r.retryCount + 1 })).modTap k fun p =>
        { p with state := .retryWait, ackTimer := none, presented := none
                 retryTimer := some s.mgmt.params.retryDelay } := by
  have hwithdraw : s.taps[k.val].withdraw = { s.taps[k.val] with ackTimer := none, presented := none } :=
    Tap.withdraw_of_listening hlisten
  rw [State.takeAck_retries hq hr ho (by simp [ackCode, hp, hbelow])]
  simp [State.enterRetryWait, State.closeExchange, State.modTap, State.setTrans, hwithdraw]

/-! ### Rises that wait for the release of TtD (R191) -/

theorem State.exec_strobe_of_driving {s : State} {k : Fin 4} (hlow : s.resetLow = false)
    (hdriving : (s.tap k).driving = true) (a : BitVec 2) :
    exec (.tapAcknowledge k (.strobe a)) s = .next (s.modTap k fun p => { p with rises := p.rises ++ [a] }) := by
  have hexec : exec (.tapAcknowledge k (.strobe a)) s = s.taken (s.riseOfAck k a) := rfl
  rw [hexec, State.taken_of_released hlow, State.riseOfAck, if_pos hdriving]

theorem State.exec_release {s : State} {k : Fin 4} (hlow : s.resetLow = false) (hdriving : (s.tap k).driving = true) :
    exec (.tapAcknowledge k .release) s
      = .next ((s.modTap k fun p => { p with driving := false }).takeRises k (s.tap k).rises) := by
  have hexec : exec (.tapAcknowledge k .release) s = s.taken (s.releaseData k) := rfl
  rw [hexec, State.taken_of_released hlow, State.releaseData, if_pos hdriving]

/-- A single rise that waited is taken as one that comes when the part has released TtD (R191). -/
theorem State.exec_release_one {s : State} {k : Fin 4} (hlow : s.resetLow = false) (hst : (s.tap k).state = .issued)
    (hdriving : (s.tap k).driving = true) {a : BitVec 2} (hrises : (s.tap k).rises = [a]) :
    exec (.tapAcknowledge k .release) s =
      exec (.tapAcknowledge k (.strobe a)) (s.modTap k fun p => { p with driving := false, rises := [] }) := by
  have hlow' : (s.modTap k fun p => { p with driving := false, rises := [] }).resetLow = false := hlow
  have hissued : ((s.modTap k fun p => { p with driving := false }).tap k).state = .issued := by simpa using hst
  rw [State.exec_release hlow hdriving, hrises, State.exec_strobe hlow' (by simp [State.Listening]), State.takeRises,
    if_pos hissued, s.modTap_modTap, State.takeRises]

/-- Settles O29: the code of an acknowledge that carries no data is `ackCode`'s, and with none the record goes to
RETRY_WAIT. -/
theorem acknowledgeWithoutDataEndsOrRetries : Obligations.AcknowledgeWithoutDataEndsOrRetries := by
  rintro s k i r q ⟨hlow, hst, hhead, hr, hk⟩ hpresented hkind
  obtain ⟨rest, hq⟩ := List.head?_eq_some_iff.1 hhead
  refine ⟨fun hdriving => ⟨State.exec_strobe_of_driving hlow hdriving, fun hrises => ?_, fun a hrises =>
    State.exec_release_one hlow hst hdriving hrises⟩, fun hlisten hp ho => ⟨fun hwrite => ?_, fun a ha => ?_,
    fun hbelow => ?_, fun hlimit => ?_⟩⟩
  · rw [State.exec_release hlow hdriving, hrises, State.takeRises]
  · rw [State.exec_strobe hlow hlisten, State.takeStrobe_of_issued hst fun _ x hx => by
      cases hx.symm.trans hpresented
      exact hkind.trans hwrite]
    exact congrArg _ (State.takeAck_answered_of_listening hlisten hq hr hk ho hp rfl (by simp [hwrite]) [])
  · have herror : ackKind a = .error := by obtain rfl | rfl := ha <;> rfl
    rw [State.exec_strobe hlow hlisten, State.takeStrobe_of_issued hst (by simp [herror]), herror]
    exact congrArg _ (State.takeAck_answered_of_listening hlisten hq hr hk ho hp rfl (by simp) [])
  · rw [State.exec_strobe hlow hlisten, State.takeStrobe_of_issued hst (by simp [ackKind])]
    exact congrArg _ (State.takeAck_retry_of_listening hlisten hq hr ho hp hbelow [])
  · rw [State.exec_strobe hlow hlisten, State.takeStrobe_of_issued hst (by simp [ackKind])]
    exact congrArg _ (State.takeAck_answered_of_listening hlisten hq hr hk ho hp
      (by simp [ackKind, ackCode, hlimit]) (by simp) [])

/-! ### The DONE of a READ (R73, R76, R79) -/

theorem State.headAnswered_goOn (s : State) (k : Fin 4) (b : Byte) (i : Fin 16) (r : TransRecord) (code : Code)
    (data : Option (List Word)) :
    (s.modTap k fun p => p.goOn b).headAnswered k i r code data
      = (s.headAnswered k i r code data).modTap k fun p => p.goOn b := by
  simp [State.headAnswered, State.modTap, Tap.goOn]
  rfl

/-- The byte that ends a DONE's transfer answers the head record OK with the words of the oldest that it ends
(R51, R73, R76, R79). -/
theorem State.takeByte_answered {s : State} {k : Fin 4} {i : Fin 16} {rest : List (Fin 16)} {r : TransRecord}
    (hst : (s.tap k).state = .issued) (hq : (s.tap k).queue = i :: rest) (hr : s.transAt i = some r) (hk : r.tap = k)
    (ho : r.orphan = false) (hp : (s.tap k).disablePending = false) (hread : r.kind = .read) {b : Byte} {x : Transfer}
    {others : List Transfer} (hended : (s.tap k).endedBy b = x :: others) :
    s.takeByte k b = (s.headAnswered k i r .ok (some (wordsOfBytes x.got))).modTap k fun p =>
      { p.afterDone b with state := .idle } := by
  have htap : (s.modTap k fun p => p.goOn b).tap k = (s.tap k).goOn b := s.tap_modTap_self k _
  have hdone := State.takeAck_answered (s := s.modTap k fun p => p.goOn b) (kind := .done) (code := .ok)
    (by rw [htap]; exact hq) hr hk ho (by rw [htap]; exact hp) rfl (wordsOfBytes x.got)
  rw [if_pos ⟨hread, rfl⟩, s.headAnswered_goOn] at hdone
  have hafter : ∀ p : Tap, p.endedBy b = x :: others →
      ({ (p.goOn b).withdraw with state := .idle } : Tap).addLate others.length
        = { p.afterDone b with state := .idle } := fun p h => by
    rw [Tap.afterDone_eq h]
    rfl
  have hkept : ((s.headAnswered k i r .ok (some (wordsOfBytes x.got))).tap k).endedBy b = x :: others := by
    rw [← hended]
    simp [State.headAnswered, State.tap, Tap.endedBy, Tap.afterByte]
  rw [State.takeByte_of_endedBy hst hended (by rw [hdone]; simp), hdone, State.modTap_modTap, State.modTap_modTap]
  exact State.modTap_congr (hafter _ hkept)

/-- Settles O30: a transfer that ends is taken as the acknowledge DONE, with its words. -/
theorem readDoneTakesItsBytes : Obligations.ReadDoneTakesItsBytes := by
  rintro s k i r q ⟨hlow, hst, hhead, hr, hk⟩ hread hpresented hq
  obtain ⟨rest, hqueue⟩ := List.head?_eq_some_iff.1 hhead
  refine ⟨fun hlisten => ?_, fun b hended => ?_, fun b x others words hended hp ho hgot => ?_⟩
  · rw [State.exec_strobe hlow hlisten, State.takeStrobe_of_read hst hpresented hq]
    rfl
  · rw [State.exec_dataByte hlow, State.takeByte_of_ne_idle (by simp [hst]), hended]
    rfl
  · have hwords : wordsOfBytes x.got = words := hgot ▸ wordsOfBytes_flatMap_wordBytes words
    rw [State.exec_dataByte hlow, State.takeByte_answered hst hqueue hr hk ho hp hread hended, hwords]

/-! ### Late acknowledges (R79) -/

/-- What a data byte does at a tap that is not ISSUED, up to the examination of its head: the transfers take it, and every
DONE that it ends is late (R79, R191). -/
def Tap.lateByte (p : Tap) (b : Byte) : Tap :=
  { p with
    transfers := p.goingAfter b
    counters := { p.counters with late := addCount p.counters.late (p.endedBy b).length } }

theorem State.takeByte_of_ne_issued {s : State} {k : Fin 4} (hst : (s.tap k).state ≠ .issued) (b : Byte) :
    s.takeByte k b =
      if (s.tap k).state = .idle ∧ (s.tap k).endedBy b ≠ [] ∧ (s.tap k).goingAfter b = [] then
        (s.modTap k fun p => p.lateByte b).examine k
      else s.modTap k fun p => p.lateByte b := by
  have hlate : ((s.tap k).endedBy b).foldl (fun c x => c.takeDone k x)
      (s.modTap k fun p => { p with transfers := (s.tap k).goingAfter b }) = s.modTap k fun p => p.lateByte b := by
    rw [State.takeDones_late k _ _ (by simpa using hst)]
    simp [State.modTap, Tap.lateByte, State.tap]
  simp only [State.takeByte, ← hlate, Tap.endedBy, Tap.goingAfter, Tap.afterByte_eq]

/-- With no transfer in progress a data byte is not read (R191). -/
theorem State.takeByte_of_no_transfers {s : State} {k : Fin 4} (h : (s.tap k).transfers = []) (b : Byte) :
    s.takeByte k b = s := by
  have hsame : ({ s.taps[k.val] with transfers := [] } : Tap) = s.taps[k.val] := by rw [← h]; rfl
  simp [State.takeByte, h, takenBy, State.modTap, hsame]

/-- Settles O31: no DONE that ends at a tap that is not ISSUED finds its record. -/
theorem lateAcknowledgeIsCounted : Obligations.LateAcknowledgeIsCounted := by
  intro s k hlow
  refine ⟨fun hst hdriving a => ?_, fun hnone b => ?_, fun hst b => ⟨fun h => ?_, fun hidle hended hgoing => ?_⟩⟩
  · have hexec : exec (.tapAcknowledge k (.strobe a)) s = s.taken (s.riseOfAck k a) := rfl
    rw [hexec, State.taken_of_released hlow, State.riseOfAck, if_neg (by simp [hdriving]), State.takeStrobe, if_pos hst]
    rfl
  · rw [State.exec_dataByte hlow, State.takeByte_of_no_transfers hnone]
  · rw [State.exec_dataByte hlow, State.takeByte_of_ne_issued hst, if_neg (by tauto)]
    rfl
  · have hlate : ((s.modTap k fun p => p.lateByte b).tap k) = (s.tap k).lateByte b := s.tap_modTap_self k _
    have hexec : exec (.examineHead k) (s.modTap k fun p => p.lateByte b)
        = (s.modTap k fun p => p.lateByte b).taken ((s.modTap k fun p => p.lateByte b).examine k) :=
      congrArg (State.taken _) (if_pos (by rw [hlate]; exact ⟨hidle, hgoing⟩))
    rw [State.exec_dataByte hlow, State.takeByte_of_ne_issued hst, if_pos ⟨hidle, hended, hgoing⟩]
    exact (hexec.trans (State.taken_of_released hlow)).symm

end Sys2Proof.Machine

/-! ## Tap ports: timers, attention inputs, and the operations on a tap -/

namespace Sys2Proof.Machine

/-! ### The retry timer and the wait timers (R77, R83) -/

theorem State.exec_retryTimerExpiry {s : State} {k : Fin 4} (hlow : s.resetLow = false)
    (hst : (s.tap k).state = .retryWait) (htimer : (s.tap k).retryTimer = some 0) :
    exec (.retryTimerExpiry k) s = .next (s.reissue k) := by
  have hexec : exec (.retryTimerExpiry k) s
      = s.taken (if (s.tap k).state = .retryWait ∧ Timer.due (s.tap k).retryTimer then s.reissue k else s) := rfl
  rw [hexec, State.taken_of_released hlow, if_pos ⟨hst, (Timer.due_iff _).2 htimer⟩]

theorem State.exec_waitTimerExpiry {s : State} {i : Fin 16} {r : TransRecord} (hlow : s.resetLow = false)
    (hr : s.transAt i = some r) (hst : r.state = .queued) (htimer : r.waitRemaining = some 0) :
    exec (.waitTimerExpiry i) s = .next (if (s.tap r.tap).state ≠ .held then s.expireWait i r.tap else s) := by
  have hexec : exec (.waitTimerExpiry i) s = execWaitTimerExpiry i s := rfl
  rw [hexec, execWaitTimerExpiry, State.taken_of_released hlow, hr]
  simp only [hst, htimer, Timer.due_iff, true_and, and_true]

/-- A record's local address, from an entry that has a local base (R23). -/
theorem State.localAddress_eq {s : State} {r : TransRecord} {w : Window} {l : BitVec 24}
    (hw : (s.bank r.bank).entries[r.entry] = some w) (hl : w.localBase = some l) :
    s.localAddress r = BitVec.ofNat 24 (l.toNat + (r.address.toNat - w.base.toNat)) := by
  simp only [State.localAddress, hw, hl, Option.getD_some]

theorem State.reissue_eq {s : State} {k : Fin 4} {i : Fin 16} {rest : List (Fin 16)} {r : TransRecord}
    (hq : (s.tap k).queue = i :: rest) (hr : s.transAt i = some r) :
    s.reissue k = (s.present k i r).modTap k fun p =>
      { p with counters := { p.counters with retries := bump p.counters.retries } } := by
  rw [State.reissue, hq]
  simp only [hr]

/-- An answer to a record anywhere in its tap's queue (R51). -/
theorem State.answer_eq {s : State} {i : Fin 16} {r : TransRecord} (hr : s.transAt i = some r) (code : Code)
    (data : Option (List Word)) :
    s.answer i code data = { s with
      records := { s.records with
        trans := s.records.trans.set i (some (r.answeredWith code data))
        localResponses := s.records.localResponses ++ [i] }
      taps := s.taps.set r.tap { s.tap r.tap with queue := (s.tap r.tap).queue.erase i } } := by
  rw [State.answer, hr]
  rfl

/-- Settles O35: a re-issue presents the record as an issue does, and a wait that is over answers its record. -/
theorem retryAndWaitTimersAct : Obligations.RetryAndWaitTimersAct := by
  refine ⟨?_, fun s i r hlow hr hst htimer => ⟨fun hheld => ?_, fun hheld => ?_⟩⟩
  · rintro s k i r w l ⟨hlow, hst, hhead, hr, -⟩ htimer hw hl
    obtain ⟨rest, hq⟩ := List.head?_eq_some_iff.1 hhead
    rw [State.exec_retryTimerExpiry hlow hst htimer, State.reissue_eq hq hr, State.present, State.modTap_modTap,
      State.requestOf, State.localAddress_eq hw hl]
  · rw [State.exec_waitTimerExpiry hlow hr hst htimer, if_pos hheld, State.expireWait, State.answer_eq hr]
    simp [State.modTap]
  · rw [State.exec_waitTimerExpiry hlow hr hst htimer, if_neg (not_not.2 hheld)]

/-! ### The attention inputs (R91, R113, R114) -/

theorem State.exec_attentionLineAsserted {s : State} (hlow : s.resetLow = false) (k : Fin 4) (line : LineId) :
    exec (.attentionLineAsserted k line) s = .next (s.sampleLine k line true) :=
  State.taken_of_released hlow

theorem State.exec_attentionLineReleased {s : State} (hlow : s.resetLow = false) (k : Fin 4) (line : LineId) :
    exec (.attentionLineReleased k line) s = .next (s.sampleLine k line false) :=
  State.taken_of_released hlow

/-- A line is sampled once in a microsecond (R91). -/
theorem State.sampleLine_again {s : State} {k : Fin 4} {line : LineId} (h : (s.tap k).sampledNow line = true)
    (level : Bool) : s.sampleLine k line level = s :=
  if_pos h

/-- A line found asserted after a sample that found it not asserted sets its flag (R91, R113). -/
theorem State.sampleLine_change {s : State} {k : Fin 4} {line : LineId} (hnow : (s.tap k).sampledNow line = false)
    (hsampled : (s.tap k).sampled line = true) (hlevel : (s.tap k).level line = false) :
    s.sampleLine k line true = (s.modTap k fun p => p.keepSample line true).raiseFlag (lineFlag k line) := by
  simp [State.sampleLine, hnow, hsampled, hlevel]

/-- A first sample, one at the level of the sample before, and one that finds the line not asserted set no flag (R91). -/
theorem State.sampleLine_no_change {s : State} {k : Fin 4} {line : LineId} (hnow : (s.tap k).sampledNow line = false)
    {level : Bool} (h : level = false ∨ (s.tap k).sampled line = false ∨ (s.tap k).level line = true) :
    s.sampleLine k line level = s.modTap k fun p => p.keepSample line level := by
  rw [State.sampleLine, if_neg (by simp [hnow])]
  refine if_neg fun ⟨hlevel, hsampled, hchanged⟩ => ?_
  obtain h | h | h := h
  · simp [h] at hlevel
  · simp [h] at hsampled
  · exact hchanged h

/-- The sample of a line in a microsecond in which it has not been taken: what an asserted and a released line do
(R91, R113, R114, R116). -/
theorem State.line_sampled {s : State} (hlow : s.resetLow = false) (k : Fin 4) (line : LineId)
    (hnow : (s.tap k).sampledNow line = false) :
    ((s.tap k).sampled line = true → (s.tap k).level line = false →
      ∃ t, exec (.attentionLineAsserted k line) s = .next t ∧ s.FlagRaised t (lineFlag k line) ∧
        t = { s.modTap k (fun p => p.keepSample line true) with attention := t.attention }) ∧
    ((s.tap k).sampled line = false ∨ (s.tap k).level line = true →
      exec (.attentionLineAsserted k line) s = .next (s.modTap k fun p => p.keepSample line true)) ∧
    exec (.attentionLineReleased k line) s = .next (s.modTap k fun p => p.keepSample line false) := by
  refine ⟨fun hsampled hlevel => ?_, fun h => ?_, ?_⟩
  · obtain ⟨a, ha⟩ := State.raiseFlag_changes (s.modTap k fun p => p.keepSample line true) (lineFlag k line)
    refine ⟨_, (State.exec_attentionLineAsserted hlow k line).trans
      (congrArg _ (State.sampleLine_change hnow hsampled hlevel)), State.flagRaised_raiseFlag _ _, ?_⟩
    rw [ha]
  · rw [State.exec_attentionLineAsserted hlow, State.sampleLine_no_change hnow (.inr h)]
  · rw [State.exec_attentionLineReleased hlow, State.sampleLine_no_change hnow (.inl rfl)]

/-- A line whose sample of the microsecond has been taken is not sampled again in it (R91). -/
theorem State.line_sampled_again {s : State} (hlow : s.resetLow = false) (k : Fin 4) (line : LineId)
    (hnow : (s.tap k).sampledNow line = true) :
    exec (.attentionLineAsserted k line) s = .next s ∧ exec (.attentionLineReleased k line) s = .next s := by
  rw [State.exec_attentionLineAsserted hlow, State.exec_attentionLineReleased hlow, State.sampleLine_again hnow,
    State.sampleLine_again hnow]
  exact ⟨rfl, rfl⟩

/-- Settles O36: both lines of a tap are sampled alike, each with its own level, marks and flag. -/
theorem attentionLineChangesSetFlags : Obligations.AttentionLineChangesSetFlags :=
  fun _ k hlow => ⟨State.line_sampled hlow k .A, State.line_sampled hlow k .B, State.line_sampled_again hlow k .A,
    State.line_sampled_again hlow k .B⟩

/-! ### Tap Enable and Tap Recover (R85, R90) -/

theorem tapEnableBody_disabled {s : State} {k : Fin 4} (h : (s.tap k).state = .disabled) :
    tapEnableBody s [one k.val] = .done [] (s.modTap k fun p => { p with state := .idle }) := by
  simp only [tapEnableBody, index?_tap, h]

/-- A tap whose disable is pending is not enabled (R85). -/
theorem tapEnableBody_pending {s : State} {k : Fin 4} (h : (s.tap k).state = .issued)
    (hp : (s.tap k).disablePending = true) : tapEnableBody s [one k.val] = .refuse .wrongState := by
  simp only [tapEnableBody, index?_tap, h, hp, if_true]

/-- Any other tap is enabled as it stands (R85). -/
theorem tapEnableBody_enabled {s : State} {k : Fin 4} (h : (s.tap k).state ≠ .disabled)
    (hp : ¬ ((s.tap k).state = .issued ∧ (s.tap k).disablePending = true)) :
    tapEnableBody s [one k.val] = .done [] s := by
  simp only [tapEnableBody, index?_tap]
  split
  next hst => exact absurd hst h
  next hst => exact if_neg fun hpending => hp ⟨hst, hpending⟩
  all_goals rfl

theorem tapRecoverBody_faulted {s : State} {k : Fin 4} (h : (s.tap k).state = .faulted) :
    tapRecoverBody s [one k.val] = .done [] (s.modTap k fun p => { p with state := .idle }) := by
  simp only [tapRecoverBody, index?_tap, h]

theorem tapRecoverBody_idle {s : State} {k : Fin 4} (h : (s.tap k).state = .idle) :
    tapRecoverBody s [one k.val] = .done [] s := by
  simp only [tapRecoverBody, index?_tap, h]

theorem tapRecoverBody_refused {s : State} {k : Fin 4} (hf : (s.tap k).state ≠ .faulted)
    (hi : (s.tap k).state ≠ .idle) : tapRecoverBody s [one k.val] = .refuse .wrongState := by
  simp only [tapRecoverBody, index?_tap]
  split
  next h => exact absurd h hf
  next h => exact absurd h hi
  all_goals rfl

/-- Settles O43: each row of the two tables is a case of the operation's body. -/
theorem tapsAreEnabledAndRecovered : Obligations.TapsAreEnabledAndRecovered := by
  intro s i r
  refine ⟨fun k h => ⟨fun hst => ?_, fun hst hp => ?_, fun hst hp => ?_⟩,
    fun k h => ⟨fun hst => ?_, fun hst => ?_, fun hf hi => ?_⟩, fun w hw => ⟨fun h => ?_, fun h => ?_⟩⟩
  · exact State.taken_done h rfl ⟨_, tapEnableBody_disabled (s := s.startMgmt i r) hst, rfl, rfl⟩
  · exact State.taken_refuse h rfl (tapEnableBody_pending (s := s.startMgmt i r) hst hp)
  · exact State.taken_done h rfl ⟨_, tapEnableBody_enabled (s := s.startMgmt i r) hst hp, rfl, rfl⟩
  · exact State.taken_done h rfl ⟨_, tapRecoverBody_faulted (s := s.startMgmt i r) hst, rfl, rfl⟩
  · exact State.taken_done h rfl ⟨_, tapRecoverBody_idle (s := s.startMgmt i r) hst, rfl, rfl⟩
  · exact State.taken_refuse h rfl (tapRecoverBody_refused (s := s.startMgmt i r) hf hi)
  · exact State.taken_refuse h rfl (by simp only [tapEnableBody, index?_none hw])
  · exact State.taken_refuse h rfl (by simp only [tapRecoverBody, index?_none hw])

/-! ### One microsecond of the time base (R82, R91, R184) -/

/-- The parts that one microsecond counts at. -/
theorem State.tick_of_released {s : State} (hlow : s.resetLow = false) : s.tick = { s with
    timeBase := s.timeBase + 1
    upper := s.upper.step
    lower := s.lower.step
    taps := s.taps.map Tap.step
    records := { s.records with trans := s.records.trans.map fun o => o.map (TransRecord.step s.taps) }
    attention := { s.attention with timer := Timer.step s.attention.timer } } :=
  if_neg (by simp [hlow])

theorem State.port_tick {s : State} (hlow : s.resetLow = false) (p : PortId) : s.tick.port p = (s.port p).step := by
  rw [State.tick_of_released hlow]
  cases p <;> rfl

theorem State.tap_tick {s : State} (hlow : s.resetLow = false) (k : Fin 4) : s.tick.tap k = (s.tap k).step := by
  rw [State.tick_of_released hlow]
  exact Vector.getElem_map Tap.step k.isLt

theorem State.transAt_tick {s : State} (hlow : s.resetLow = false) (i : Fin 16) :
    s.tick.transAt i = (s.transAt i).map (TransRecord.step s.taps) := by
  rw [State.tick_of_released hlow]
  exact Vector.getElem_map _ i.isLt

/-- Settles O2: a step on an empty queue is `State.tick`, which counts at each block by its own step. -/
theorem emptyQueueCountsOneMicrosecond : Obligations.EmptyQueueCountsOneMicrosecond := by
  intro s hempty
  have hstep : step s = .next s.tick := by simp only [step, hempty]
  refine ⟨fun hlow => ?_, fun hlow => ⟨s.tick, hstep, ?_, State.port_tick hlow, State.tap_tick hlow,
    State.transAt_tick hlow, ?_⟩⟩
  · rw [hstep, State.tick, if_pos hlow]
  all_goals rw [State.tick_of_released hlow]
  exact ⟨rfl, rfl, rfl, rfl, rfl, rfl, rfl, rfl, rfl, rfl, rfl⟩

end Sys2Proof.Machine

/-! ## Tap lines, watches and held records -/

namespace Sys2Proof.Machine

/-! ### Set Tap Lines (R92) -/

theorem setTapLinesBody_sets (s : State) (k : Fin 4) (line0 line1 level : Bool) :
    setTapLinesBody s [one k.val, pack [(1, line0.toNat), (1, line1.toNat)], one level.toNat] =
      .done [pack [(1, ((s.tap k).setLines line0 line1 level).mode0.toNat),
        (1, ((s.tap k).setLines line0 line1 level).mode1.toNat)]]
        (s.modTap k fun p => p.setLines line0 line1 level) := by
  have hline0 : (pack [(1, line0.toNat), (1, line1.toNat)]).getLsbD 0 = line0 :=
    getLsbD_pack [] line0 _ (by simp [packWidth])
  have hline1 : (pack [(1, line0.toNat), (1, line1.toNat)]).getLsbD 1 = line1 :=
    getLsbD_pack [(1, line0.toNat)] line1 [] (by simp [packWidth])
  have hclear : clearAbove (pack [(1, line0.toNat), (1, line1.toNat)]) 2 = true := clearAbove_pack (by simp [packWidth])
  simp only [setTapLinesBody, index?_tap, flag?_one, hline0, hline1, if_pos hclear, State.tap_modTap_self]

theorem setTapLinesBody_refused (s : State) {w1 w2 w3 : Word} (h : 4 ≤ w1.toNat ∨ 4 ≤ w2.toNat ∨ 2 ≤ w3.toNat) :
    setTapLinesBody s [w1, w2, w3] = .refuse .badOperand := by
  simp only [setTapLinesBody]
  split
  next k level hk hlevel =>
    refine if_neg fun hclear => ?_
    have hw2 : w2.toNat < 4 := of_decide_eq_true hclear
    rcases h with h | h | h
    · exact absurd hk (by simp [index?_none h])
    · omega
    · exact absurd hlevel (by simp [flag?_none h])
  · rfl

/-! ### Set Watch and Disarm Watch (R102, R103) -/

/-- A watch's tap, ANY among them, is read back from its number. -/
theorem watchTap?_num (tap : Option (Fin 4)) : watchTap? ((tap.map Fin.val).getD 4) = some tap := by
  cases tap with
  | none => rfl
  | some k =>
    have hne : k.val ≠ 4 := by omega
    simp [watchTap?, hne, index?_val]

theorem watchTap?_none {v : Nat} (h : 4 < v) : watchTap? v = none := by
  rw [watchTap?, if_neg (by omega), index?_none (by omega)]
  rfl

/-- What the first operand of Set Watch carries. -/
theorem watchHead_reads (n : Fin 2) (reads writes : Bool) (tap : Option (Fin 4)) (hold oneShot : Bool) {w : Word}
    (h : w = pack [(1, n.val), (1, reads.toNat), (1, writes.toNat), (3, (tap.map Fin.val).getD 4), (1, hold.toNat),
      (1, oneShot.toNat)]) :
    (if w.getLsbD 0 then 1 else 0) = n ∧ w.getLsbD 1 = reads ∧ w.getLsbD 2 = writes ∧ watchTap? (field w 3 3) = some tap
      ∧ w.getLsbD 6 = hold ∧ w.getLsbD 7 = oneShot ∧ clearAbove w 8 = true := by
  subst h
  have htapLt : (tap.map Fin.val).getD 4 < 8 := by
    cases tap with
    | none => simp
    | some k => have := k.isLt; simp; omega
  refine ⟨?_, ?_, ?_, ?_, ?_, ?_, clearAbove_pack (by simp [packWidth])⟩
  · rw [getLsbD_eq_field]
    refine (congrArg (fun v => if decide (v = 1) = true then (1 : Fin 2) else 0)
      (field_pack [] 1 n.val _ (by simp [packWidth]))).trans ?_
    match n with
    | 0 => rfl
    | 1 => rfl
  · exact getLsbD_pack [(1, n.val)] reads _ (by simp [packWidth])
  · exact getLsbD_pack [(1, n.val), (1, reads.toNat)] writes _ (by simp [packWidth])
  · have hfield := field_pack [(1, n.val), (1, reads.toNat), (1, writes.toNat)] 3 ((tap.map Fin.val).getD 4)
      [(1, hold.toNat), (1, oneShot.toNat)] (by simp [packWidth])
    exact (congrArg watchTap? (hfield.trans (Nat.mod_eq_of_lt htapLt))).trans (watchTap?_num tap)
  · exact getLsbD_pack [(1, n.val), (1, reads.toNat), (1, writes.toNat), (3, (tap.map Fin.val).getD 4)] hold _
      (by simp [packWidth])
  · exact getLsbD_pack [(1, n.val), (1, reads.toNat), (1, writes.toNat), (3, (tap.map Fin.val).getD 4), (1, hold.toNat)]
      oneShot [] (by simp [packWidth])

/-- The operands of an armed watch with hit count 0 give the watch back. -/
theorem setWatch?_of_operands {n : Fin 2} {x : Watch} {w1 low high : Word} (harmed : x.armed = true)
    (hhits : x.hits = 0) (hkinds : x.reads = true ∨ x.writes = true) (hrange : x.low.toNat ≤ x.high.toNat)
    (h : [w1, low, high] = watchOperands n x) : setWatch? w1 low high = some (n, x) := by
  obtain ⟨armed, xlow, xhigh, reads, writes, tap, hold, oneShot, hits⟩ := x
  simp only [watchOperands, List.cons.injEq, and_true] at h harmed hhits hkinds hrange
  obtain ⟨h1, rfl, rfl⟩ := h
  obtain ⟨hn, hreads, hwrites, htap, hhold, hshot, hclear⟩ := watchHead_reads n reads writes tap hold oneShot h1
  have hkindsField : field w1 1 2 ≠ 0 := by
    rcases hkinds with hk | hk
    · exact field_ne_zero (k := 0) (by decide) (hreads.trans hk)
    · exact field_ne_zero (k := 1) (by decide) (hwrites.trans hk)
  simp only [setWatch?, htap]
  rw [if_pos ⟨hclear, hkindsField, hrange⟩, hn, hreads, hwrites, hhold, hshot, harmed, hhits]

theorem setWatch?_eq_none {w1 low high : Word} (h : w1.extractLsb' 1 2 = 0 ∨ 4 < (w1.extractLsb' 3 3).toNat ∨
    w1.extractLsb' 8 24 ≠ 0 ∨ high.toNat < low.toNat) : setWatch? w1 low high = none := by
  unfold setWatch?
  split
  · rfl
  next tap htap =>
    refine if_neg ?_
    rintro ⟨hclear, hkinds, hrange⟩
    rw [clearAbove_iff (by decide)] at hclear
    rcases h with h | h | h | h
    · exact hkinds (by simp [field, h])
    · exact absurd htap (by simp only [field, watchTap?_none h, reduceCtorEq, not_false_eq_true])
    · exact h hclear
    · omega

theorem setWatchBody_sets (s : State) (n : Fin 2) {x : Watch} (harmed : x.armed = true) (hhits : x.hits = 0)
    (hkinds : x.reads = true ∨ x.writes = true) (hrange : x.low.toNat ≤ x.high.toNat) :
    setWatchBody s (watchOperands n x) = .done [] (s.modWatch n fun _ => x) := by
  rw [watchOperands, setWatchBody, setWatch?_of_operands harmed hhits hkinds hrange rfl]

theorem disarmWatchBody_disarms (s : State) (n : Fin 2) :
    disarmWatchBody s [one n.val] = .done [] (s.modWatch n fun x => { x with armed := false }) := by
  simp only [disarmWatchBody, index?_watch]

/-- Settles O45: the operands are read back field by field (`watchHead_reads`), and each body sets what they name. -/
theorem linesAndWatchesAreSet : Obligations.LinesAndWatchesAreSet := by
  intro s i r
  refine ⟨fun k line0 line1 level h => ?_, fun w1 w2 w3 hbad h => ?_, fun n x harmed hhits hkinds hrange h => ?_,
    fun w1 low high hbad h => ?_, fun n h => ?_, fun w hw h => ?_⟩
  · exact State.taken_done h rfl ⟨_, setTapLinesBody_sets (s.startMgmt i r) k line0 line1 level, rfl, rfl⟩
  · exact State.taken_refuse h rfl (setTapLinesBody_refused _ hbad)
  · exact State.taken_done h rfl ⟨_, setWatchBody_sets _ n harmed hhits hkinds hrange, rfl, rfl⟩
  · exact State.taken_refuse h rfl (by simp only [setWatchBody, setWatch?_eq_none hbad])
  · exact State.taken_done h rfl ⟨_, disarmWatchBody_disarms _ n, rfl, rfl⟩
  · exact State.taken_refuse h rfl (by simp only [disarmWatchBody, index?_none hw])

/-! ### The held record (R69) -/

theorem State.heldRecord?_of_serving {s : State} {k : Fin 4} {j : Fin 16} {x : TransRecord}
    (h : s.Serving k .held j x) : s.heldRecord? k = some (j, x) := by
  obtain ⟨-, hst, hhead, hx, -⟩ := h
  obtain ⟨rest, hq⟩ := List.head?_eq_some_iff.1 hhead
  rw [State.heldRecord?, if_pos hst, hq]
  simp only [hx, Option.map_some]

theorem State.heldRecord?_of_ne_held {s : State} {k : Fin 4} (h : (s.tap k).state ≠ .held) : s.heldRecord? k = none :=
  if_neg h

theorem State.answer_of_serving {s : State} {k : Fin 4} {st : TapState} {j : Fin 16} {x : TransRecord}
    (h : s.Serving k st j x) (code : Code) (data : Option (List Word)) :
    s.answer j code data = s.headAnswered k j x code data := by
  obtain ⟨-, -, hhead, hx, hk⟩ := h
  obtain ⟨rest, hq⟩ := List.head?_eq_some_iff.1 hhead
  have htail : s.taps[k].queue.tail = rest := congrArg List.tail hq
  rw [State.answer_head hq hx hk, State.headAnswered, htail]
  rfl

/-! ### Release Hold, Discard Hold and Read Held Request (R106 to R109) -/

theorem releaseHoldBody_held {s : State} {k : Fin 4} {j : Fin 16} {x : TransRecord}
    (h : s.heldRecord? k = some (j, x)) :
    releaseHoldBody s [one k.val] = .done [one j.val] (s.issue k j { x with hold := false }) := by
  simp only [releaseHoldBody, index?_tap, h]

theorem discardHoldBody_held {s : State} {k : Fin 4} {j : Fin 16} {x : TransRecord}
    (h : s.heldRecord? k = some (j, x)) :
    discardHoldBody s [one k.val] =
      .done [one j.val] ((s.answer j .discarded none).modTap k fun p => { p with state := .idle }) := by
  simp only [discardHoldBody, index?_tap, h]

/-- HEADER leaves its start operand unexamined; DATA takes a start of 0 to 15 (R108, R109, R130). -/
theorem readHeldRequestBody_held {s : State} {k : Fin 4} {j : Fin 16} {x : TransRecord}
    (h : s.heldRecord? k = some (j, x)) {data : Bool} {start : Word} (hstart : data = true → start.toNat < 16) :
    readHeldRequestBody s [one k.val, one data.toNat, start] =
      if data then heldData s x start.toNat else .done (s.heldHeader j x) s := by
  have hexamined : ¬ (data = true ∧ start.toNat ≥ 16) := fun hd => absurd (hstart hd.1) (by omega)
  simp only [readHeldRequestBody, index?_tap, flag?_one, if_neg hexamined, h]

theorem readHeldRequestBody_not_held {s : State} {k : Fin 4} (h : s.heldRecord? k = none) {data : Bool} {start : Word}
    (hstart : data = true → start.toNat < 16) :
    readHeldRequestBody s [one k.val, one data.toNat, start] = .refuse .wrongState := by
  have hexamined : ¬ (data = true ∧ start.toNat ≥ 16) := fun hd => absurd (hstart hd.1) (by omega)
  simp only [readHeldRequestBody, index?_tap, flag?_one, if_neg hexamined, h]

theorem readHeldRequestBody_refused (s : State) {w1 w2 w3 : Word}
    (h : 4 ≤ w1.toNat ∨ 2 ≤ w2.toNat ∨ (w2 = 1 ∧ 16 ≤ w3.toNat)) :
    readHeldRequestBody s [w1, w2, w3] = .refuse .badOperand := by
  simp only [readHeldRequestBody]
  split
  next k data hk hdata =>
    refine if_pos ?_
    rcases h with h | h | ⟨rfl, h⟩
    · exact absurd hk (by simp [index?_none h])
    · exact absurd hdata (by simp [flag?_none h])
    · exact ⟨(Option.some.inj hdata).symm, h⟩
  · rfl

/-- The header's last word is the local address, from an entry that has a local base (R23, R108). -/
theorem State.heldHeader_eq {s : State} {x : TransRecord} {w : Window} {l : BitVec 24}
    (hw : (s.bank x.bank).entries[x.entry] = some w) (hl : w.localBase = some l) (j : Fin 16) :
    s.heldHeader j x = [one j.val, one x.tag.toNat, one x.kind.num, one x.length, x.address,
      one (BitVec.ofNat 24 (l.toNat + (x.address.toNat - w.base.toNat))).toNat] := by
  rw [State.heldHeader, State.localAddress_eq hw hl]

/-- The DATA section of a held WRITE, from a start within it (R109). -/
theorem heldData_write {s : State} {x : TransRecord} {start : Nat} {d : List Word} (hkind : x.kind = .write)
    (hstart : start < x.length) (hd : x.writeData = some d) : heldData s x start = .done ((d.drop start).take 8) s := by
  simp only [heldData, hkind, if_pos hstart, hd, Option.getD_some]

/-- The same, from a start behind its last word (R109). -/
theorem heldData_behind {s : State} {x : TransRecord} {start : Nat} (hkind : x.kind = .write)
    (hstart : x.length ≤ start) : heldData s x start = .refuse .badOperand := by
  simp only [heldData, hkind, if_neg (Nat.not_lt.2 hstart)]

theorem heldData_read {s : State} {x : TransRecord} (hkind : x.kind = .read) (start : Nat) :
    heldData s x start = .done [] s := by
  simp only [heldData, hkind]

/-- Settles O46: what each operation's body does with the held record, with none, and with operands out of range. -/
theorem heldTapIsReleasedDiscardedOrRead : Obligations.HeldTapIsReleasedDiscardedOrRead := by
  intro s i r k
  refine ⟨fun j x w l hserving hw hl => ?_, fun hst => ?_, fun w hw => ⟨fun h => ?_, fun h => ?_⟩,
    fun w1 w2 w3 hbad h => ?_⟩
  · have hheld : (s.startMgmt i r).heldRecord? k = some (j, x) := State.heldRecord?_of_serving hserving
    refine ⟨fun h => ?_, fun h => ?_, fun start h => ?_, fun start h hstart =>
      ⟨fun hkind => ?_, fun hkind hlt d hd => ?_, fun hkind hle => ?_⟩⟩
    · refine State.taken_done_kept h rfl ⟨_, releaseHoldBody_held hheld, rfl, rfl, ?_⟩
      rw [← State.localAddress_eq hw hl, State.issue, State.present, State.modTap_modTap]
      rfl
    · refine State.taken_done_kept h rfl ⟨_, discardHoldBody_held hheld, ?_⟩
      rw [State.answer_of_serving (s := s.startMgmt i r) hserving]
      exact ⟨rfl, rfl, rfl⟩
    · have hheader := readHeldRequestBody_held (data := false) (start := start) hheld nofun
      rw [State.heldHeader_eq (s := s.startMgmt i r) hw hl] at hheader
      exact State.taken_done h rfl ⟨_, hheader, rfl, rfl⟩
    all_goals have hdata := readHeldRequestBody_held (data := true) hheld fun _ => hstart
    · exact State.taken_done h rfl ⟨_, hdata.trans (heldData_read hkind _), rfl, rfl⟩
    · exact State.taken_done h rfl ⟨_, hdata.trans (heldData_write hkind hlt hd), rfl, rfl⟩
    · exact State.taken_refuse h rfl (hdata.trans (heldData_behind hkind hle))
  · have hnone : (s.startMgmt i r).heldRecord? k = none := State.heldRecord?_of_ne_held hst
    refine ⟨fun h => ?_, fun h => ?_, fun start h => ?_⟩
    · exact State.taken_refuse h rfl (by simp only [releaseHoldBody, index?_tap, hnone])
    · exact State.taken_refuse h rfl (by simp only [discardHoldBody, index?_tap, hnone])
    · rcases h with h | ⟨h, hstart⟩
      · exact State.taken_refuse h rfl (readHeldRequestBody_not_held (data := false) hnone nofun)
      · exact State.taken_refuse h rfl (readHeldRequestBody_not_held (data := true) hnone fun _ => hstart)
  · exact State.taken_refuse h rfl (by simp only [releaseHoldBody, index?_none hw])
  · exact State.taken_refuse h rfl (by simp only [discardHoldBody, index?_none hw])
  · exact State.taken_refuse h rfl (readHeldRequestBody_refused _ hbad)

end Sys2Proof.Machine

/-! ## The attention unit at every step

`Attention.Agrees` is the invariant as a property of the attention unit alone, and each operation on the unit keeps it.
Most events leave the unit as it was: they are the simp lemmas `State.attention_…`, and `State.attention_exec` gathers
them. The commands that may reach it (`reachesAttention`) end in the operations on the unit. -/

namespace Sys2Proof.Machine

/-! ### The operations on the unit (R113 to R124) -/

/-- Every announced flag is set, and in QUIET no timer runs and no packet is pending (R113, R115). -/
structure Attention.Agrees (a : Attention) : Prop where
  announcedSet : a.flagsAnnounced &&& ~~~a.flagsSet = 0
  atRest : a.newList = none → a.timer = none ∧ a.packet = none

theorem State.attentionAgrees_iff {s : State} : s.AttentionAgrees ↔ s.attention.Agrees :=
  ⟨fun ⟨hset, hrest⟩ => ⟨hset, hrest⟩, fun ⟨hset, hrest⟩ => ⟨hset, hrest⟩⟩

/-- A mask lies within another if each flag of it is one of the other's. -/
theorem and_not_eq_zero_iff {w : Nat} {x y : BitVec w} :
    x &&& ~~~y = 0#w ↔ ∀ i, x.getLsbD i = true → y.getLsbD i = true := by
  constructor
  · intro h i hx
    have hi : i < w := BitVec.lt_of_getLsbD hx
    have hbit := congrArg (fun z => z.getLsbD i) h
    simpa [hi, hx] using hbit
  · intro h
    refine BitVec.eq_of_getLsbD_eq fun i hi => ?_
    cases hx : x.getLsbD i with
    | false => simp [hx]
    | true => simp [h i hx]

theorem Attention.agrees_atReset : Attention.atReset.Agrees := ⟨by decide, fun _ => ⟨rfl, rfl⟩⟩

/-- A flag that was clear is not announced, so that its latch takes no announced mark with it (R114). -/
theorem Attention.Agrees.latch {a : Attention} (h : a.Agrees) (mask : BitVec 17) : (a.latch mask).Agrees where
  announcedSet := and_not_eq_zero_iff.2 fun i hi => by
    have hset := and_not_eq_zero_iff.1 h.announcedSet i
    simp only [Attention.latch, BitVec.getLsbD_and, BitVec.getLsbD_or, Bool.and_eq_true, Bool.or_eq_true] at hi ⊢
    exact .inl (hset hi.1)
  atRest := h.atRest

theorem Attention.Agrees.clear {a : Attention} (h : a.Agrees) (mask : BitVec 17) : (a.clear mask).Agrees where
  announcedSet := and_not_eq_zero_iff.2 fun i hi => by
    have hset := and_not_eq_zero_iff.1 h.announcedSet i
    simp only [Attention.clear, BitVec.getLsbD_and, Bool.and_eq_true] at hi ⊢
    exact ⟨hset hi.1, hi.2⟩
  atRest := h.atRest

/-- The flags announced are eligible, and so set (R116). -/
theorem Attention.Agrees.announce {a : Attention} (h : a.Agrees) (interval : Nat) : (a.announce interval).Agrees where
  announcedSet := and_not_eq_zero_iff.2 fun i hi => by
    have hset := and_not_eq_zero_iff.1 h.announcedSet i
    simp only [Attention.announce, Attention.eligible, BitVec.getLsbD_and, BitVec.getLsbD_or, Bool.and_eq_true,
      Bool.or_eq_true] at hi ⊢
    exact hi.elim hset fun helig => helig.1.1
  atRest hquiet := absurd hquiet (by simp [Attention.announce])

theorem Attention.Agrees.enable {a : Attention} (h : a.Agrees) (mask : BitVec 17) (on : Bool) :
    (a.enable mask on).Agrees := ⟨h.announcedSet, h.atRest⟩

theorem Attention.Agrees.acknowledge {a : Attention} (h : a.Agrees) : a.acknowledge.Agrees :=
  ⟨h.announcedSet, fun _ => ⟨rfl, rfl⟩⟩

theorem Attention.agrees_atUpperLoss (a : Attention) : a.atUpperLoss.Agrees :=
  ⟨BitVec.zero_and, fun _ => ⟨rfl, rfl⟩⟩

/-- The pending packet leaves, sent by the arbiter (R118). -/
theorem Attention.Agrees.sent {a : Attention} (h : a.Agrees) : ({ a with packet := none } : Attention).Agrees :=
  ⟨h.announcedSet, fun hquiet => ⟨(h.atRest hquiet).1, rfl⟩⟩

/-- A timer that is stopped does not count (R184). -/
theorem Attention.Agrees.tick {a : Attention} (h : a.Agrees) :
    ({ a with timer := Timer.step a.timer } : Attention).Agrees :=
  ⟨h.announcedSet, fun hquiet => ⟨congrArg Timer.step (h.atRest hquiet).1, (h.atRest hquiet).2⟩⟩

/-! ### Events that leave the unit -/

@[simp] theorem State.attention_settle (s : State) : s.settle.attention = s.attention := by
  obtain ⟨_, _, _, _, _, h⟩ := s.settle_changes
  rw [h]

@[simp] theorem State.attention_refuseHead (s : State) (r : Refused) : (s.refuseHead r).attention = s.attention := by
  obtain ⟨_, _, _, _, h⟩ := s.refuseHead_changes r
  rw [h]

@[simp] theorem State.attention_passHead (s : State) (p : Down) : (s.passHead p).attention = s.attention := by
  obtain ⟨_, _, _, _, _, h⟩ := s.passHead_changes p
  rw [h]

@[simp] theorem State.attention_answer (s : State) (i : Fin 16) (code : Code) (data : Option (List Word)) :
    (s.answer i code data).attention = s.attention := by
  obtain ⟨_, _, _, h⟩ := s.answer_changes i code data
  rw [h]

@[simp] theorem State.attention_answerAll (s : State) (is : List (Fin 16)) (code : Code) :
    (s.answerAll is code).attention = s.attention := by
  obtain ⟨_, _, _, h⟩ := s.answerAll_changes is code
  rw [h]

@[simp] theorem State.attention_freeRecord (s : State) (i : Fin 16) : (s.freeRecord i).attention = s.attention := by
  obtain ⟨_, _, h⟩ := s.freeRecord_changes i
  rw [h]

@[simp] theorem State.attention_finishMgmt (s : State) (i : Fin 3) (code : Code) (result : List Word) :
    (s.finishMgmt i code result).attention = s.attention := by
  obtain ⟨_, _, _, h⟩ := s.finishMgmt_changes i code result
  rw [h]

@[simp] theorem State.attention_endIssued (s : State) (k : Fin 4) (i : Fin 16) (r : TransRecord) (code : Code)
    (data : Option (List Word)) : (s.endIssued k i r code data).attention = s.attention := by
  obtain ⟨_, _, _, h⟩ := s.endIssued_changes k i r code data
  rw [h]

@[simp] theorem State.attention_completeDisable (s : State) (k : Fin 4) :
    (s.completeDisable k).attention = s.attention := by
  obtain ⟨_, _, h⟩ := s.completeDisable_changes k
  rw [h]

@[simp] theorem State.attention_faultTap (s : State) (k : Fin 4) : (s.faultTap k).attention = s.attention := by
  unfold State.faultTap
  split <;> simp

theorem State.attention_riseOfAck (s : State) (k : Fin 4) (a : BitVec 2) :
    (s.riseOfAck k a).attention = s.attention := by
  unfold State.riseOfAck
  split
  · rfl
  · obtain ⟨_, _, _, h⟩ := s.takeStrobe_changes k a
    rw [h]

theorem State.attention_takeDones (s : State) (k : Fin 4) (l : List Transfer) :
    (l.foldl (fun c x => c.takeDone k x) s).attention = s.attention := by
  obtain ⟨_, _, _, h⟩ := State.takeDones_changes k l s
  rw [h]

theorem State.attention_releaseData (s : State) (k : Fin 4) : (s.releaseData k).attention = s.attention := by
  obtain ⟨_, _, _, h⟩ := s.releaseData_changes k
  rw [h]

theorem State.attention_reissue (s : State) (k : Fin 4) : (s.reissue k).attention = s.attention := by
  unfold State.reissue
  split
  · rfl
  · split <;> rfl

@[simp] theorem State.attention_relay (s : State) (u : Up) : (s.relay u).attention = s.attention := by
  unfold State.relay
  dsimp only
  split
  · rfl
  · split <;> rfl

theorem State.attention_claimHead (s : State) (b : BankId) (e : Fin 32) (w : Window) (q : Request) :
    (s.claimHead b e w q).attention = s.attention := by
  unfold State.claimHead
  split
  · simp
  · split <;> rfl

theorem State.attention_classifyRequest (s : State) (q : Request) : (s.classifyRequest q).attention = s.attention := by
  unfold State.classifyRequest
  split
  · simp
  next b _ =>
    split
    · split <;> simp
    next e _ =>
      split
      · rfl
      · have hhit : (s.modBank b fun x => x.countHit e).attention = s.attention := rfl
        dsimp only
        split
        · exact (State.attention_passHead _ _).trans hhit
        · exact (State.attention_refuseHead _ _).trans hhit
        · exact (State.attention_claimHead _ b e _ q).trans hhit

theorem State.attention_classifyMgmt (s : State) (m : MgmtPacket) : (s.classifyMgmt m).attention = s.attention := by
  unfold State.classifyMgmt
  split
  · simp
  split
  · simp
  split
  · simp
  · rfl

theorem State.attention_classify (s : State) : s.classify.attention = s.attention := by
  unfold State.classify
  split
  · rfl
  split
  · rfl
  · exact s.attention_classifyRequest _
  · exact s.attention_classifyMgmt _

theorem State.attention_completeVerify (s : State) (i : Fin 3) (b : BankId) :
    (s.completeVerify i b).attention = s.attention := by
  unfold State.completeVerify
  split
  · simp
  · exact State.attention_finishMgmt _ i _ _

/-! ### Management operations that leave the unit -/

theorem State.attention_clearGroup (s : State) (g : Group) : (s.clearGroup g).attention = s.attention := by
  cases g with
  | port p => exact s.attention_modPort p _
  | tap k => rfl
  | branch => rfl

theorem readCountersBody_attention (s : State) (ws : List Word) :
    ((readCountersBody s ws).state s).attention = s.attention := by
  unfold readCountersBody
  split
  · split
    · dsimp only [Begun.state_done]
      split
      · exact s.attention_clearGroup _
      · rfl
    · rfl
  · rfl

theorem tapDisableBody_attention (s : State) (ws : List Word) :
    ((tapDisableBody s ws).state s).attention = s.attention := by
  unfold tapDisableBody
  split
  · split
    · rfl
    · split
      · rfl
      · rfl
      all_goals exact State.attention_answerAll _ _ _
  · rfl

theorem discardHoldBody_attention (s : State) (ws : List Word) :
    ((discardHoldBody s ws).state s).attention = s.attention := by
  unfold discardHoldBody
  split
  · split
    · rfl
    · split
      · rfl
      · exact State.attention_answer _ _ _ _
  · rfl

/-- The operations' bodies that edit a bank, a tap, a record or a watch, or pause the classifier. -/
def attentionKeepingBodies : List (State → List Word → Begun) :=
  [writeEntryBody, clearBankBody, setMissActionBody, openBankBody, selectBankBody, clearHitCountsBody, tapEnableBody,
    tapRecoverBody, setTapLinesBody, setWatchBody, disarmWatchBody, releaseHoldBody, branchResetBody]

theorem attentionKeepingBodies_attention {body : State → List Word → Begun} (h : body ∈ attentionKeepingBodies)
    (s : State) (ws : List Word) : ((body s ws).state s).attention = s.attention := by
  simp only [attentionKeepingBodies, List.mem_cons, List.not_mem_nil, or_false] at h
  rcases h with rfl | rfl | rfl | rfl | rfl | rfl | rfl | rfl | rfl | rfl | rfl | rfl | rfl
  all_goals
    delta writeEntryBody clearBankBody setMissActionBody openBankBody selectBankBody clearHitCountsBody tapEnableBody
      tapRecoverBody setTapLinesBody setWatchBody disarmWatchBody releaseHoldBody branchResetBody
    repeat' split
    all_goals rfl

theorem State.attention_begin {op : Op} {body : State → List Word → Begun}
    (hbody : ∀ (u : State) ws, ((body u ws).state u).attention = u.attention) (s : State) :
    (s.begin op body).attention = s.attention := by
  obtain ⟨u, v, rs, rs', rfl, hv, h⟩ := s.begin_outcome op body
  rw [h]
  obtain rfl | ⟨ws, rfl⟩ := hv
  · rfl
  · exact hbody _ ws

theorem State.attention_begin_reading {op : Op} {body : State → List Word → Begun}
    (hbody : ∀ (u : State) ws, (body u ws).state u = u) (s : State) : (s.begin op body).attention = s.attention :=
  State.attention_begin (fun u ws => by rw [hbody]) s

/-! ### Every command that does not reach the unit -/

/-- The commands that may change the attention unit. -/
def reachesAttention : Instr → Bool
  | .powerUpReset | .packetReceived _ _ | .helloReceived _ _ | .helloPeriod _ | .silenceTimeout _ | .arbiterSend
  | .examineHead _ | .tapAcknowledge _ (.dataByte _) | .ackTimeout _ | .attentionLineAsserted _ _
  | .attentionLineReleased _ _ | .reAnnounce | .readAttention | .clearAttention | .setAttentionEnables
  | .acknowledgeAttention | .setParameter => true
  | _ => false

theorem State.attention_of_taken {s u t : State} (h : s.taken u = .next t) (hu : u.attention = s.attention) :
    t.attention = s.attention := by
  rw [State.eq_of_taken h]
  split
  · rfl
  · exact hu

/-- Every other command leaves the attention unit as it was. -/
theorem State.attention_exec {c : Instr} {s t : State} (hc : reachesAttention c = false) (h : exec c s = .next t) :
    t.attention = s.attention := by
  cases c with
  | powerUpReset | packetReceived | helloReceived | helloPeriod | silenceTimeout | arbiterSend | examineHead
  | ackTimeout | attentionLineAsserted | attentionLineReleased | reAnnounce | readAttention | clearAttention
  | setAttentionEnables | acknowledgeAttention | setParameter => simp [reachesAttention] at hc
  | resetAsserted => cases h; rfl
  | creditReceived port payload =>
    refine State.attention_of_taken h ?_
    split <;> exact s.attention_modPort port _
  | idleReceived port payload =>
    refine State.attention_of_taken h ?_
    split <;> exact s.attention_modPort port _
  | damagedSymbolReceived port => exact State.attention_of_taken h (s.attention_modPort port _)
  | trainingRestart port =>
    refine State.attention_of_taken h ?_
    split
    · exact s.attention_modPort port _
    · rfl
  | sendCredit port =>
    refine State.attention_of_taken h ?_
    split
    · exact s.attention_modPort port _
    · rfl
  | classifyPacket => exact State.attention_of_taken h s.attention_classify
  | lowerSend =>
    refine State.attention_of_taken h ?_
    split
    · rfl
    · split
      · exact State.attention_settle _
      · rfl
  | tapAcknowledge tap input =>
    refine State.attention_of_taken h ?_
    cases input with
    | strobe a => exact s.attention_riseOfAck tap a
    | dataByte b => simp [reachesAttention] at hc
    | release => exact s.attention_releaseData tap
  | retryTimerExpiry tap =>
    refine State.attention_of_taken h ?_
    split
    · exact s.attention_reissue tap
    · rfl
  | waitTimerExpiry index =>
    refine State.attention_of_taken h ?_
    split
    · rfl
    · split
      · exact s.attention_answer index _ _
      · rfl
  | verifyBankComplete =>
    refine State.attention_of_taken h ?_
    split
    · exact s.attention_completeVerify _ _
    · rfl
  | unknownOperation =>
    refine State.attention_of_taken h ?_
    split
    · split
      · rfl
      · exact State.attention_finishMgmt _ _ _ _
    · rfl
  | readIdentity => exact State.attention_of_taken h (State.attention_begin_reading (fun _ _ => rfl) s)
  | readBranchStatus => exact State.attention_of_taken h (State.attention_begin_reading (fun _ _ => rfl) s)
  | readRecord => exact State.attention_of_taken h (State.attention_begin_reading readRecordBody_reads s)
  | readCounters => exact State.attention_of_taken h (State.attention_begin readCountersBody_attention s)
  | readEntry => exact State.attention_of_taken h (State.attention_begin_reading readEntryBody_reads s)
  | verifyBank => exact State.attention_of_taken h (State.attention_begin_reading verifyBankBody_reads s)
  | tapDisable => exact State.attention_of_taken h (State.attention_begin tapDisableBody_attention s)
  | readTapStatus => exact State.attention_of_taken h (State.attention_begin_reading readTapStatusBody_reads s)
  | readWatch => exact State.attention_of_taken h (State.attention_begin_reading readWatchBody_reads s)
  | discardHold => exact State.attention_of_taken h (State.attention_begin discardHoldBody_attention s)
  | readHeldRequest => exact State.attention_of_taken h (State.attention_begin_reading readHeldRequestBody_reads s)
  | readParameter => exact State.attention_of_taken h (State.attention_begin_reading readParameterBody_reads s)
  | writeEntry | clearBank | setMissAction | openBank | selectBank | clearHitCounts | tapEnable | tapRecover
  | setTapLines | setWatch | disarmWatch | releaseHold | branchReset =>
    exact State.attention_of_taken h
      (State.attention_begin (attentionKeepingBodies_attention (by simp [attentionKeepingBodies])) s)

/-! ### Announcements and flags -/

/-- From `s` to `t` the invariant of the attention unit is kept. -/
def State.KeepsAttention (s t : State) : Prop := s.attention.Agrees → t.attention.Agrees

theorem State.KeepsAttention.refl (s : State) : s.KeepsAttention s := id

theorem State.KeepsAttention.trans {s t u : State} (h : s.KeepsAttention t) (h' : t.KeepsAttention u) :
    s.KeepsAttention u := h' ∘ h

theorem State.KeepsAttention.of_eq {s t : State} (h : t.attention = s.attention) : s.KeepsAttention t :=
  fun hs => h ▸ hs

theorem State.keepsAttention_announceIfDue (s : State) : s.KeepsAttention s.announceIfDue := by
  unfold State.announceIfDue
  split
  · exact fun hs => hs.announce _
  · exact .refl s

theorem State.keepsAttention_raiseFlag (s : State) (n : Nat) : s.KeepsAttention (s.raiseFlag n) := by
  have hlatch : s.KeepsAttention { s with attention := s.attention.latch (flagMask n) } := fun hs => hs.latch _
  exact hlatch.trans (State.keepsAttention_announceIfDue _)

theorem State.keepsAttention_modPort (s : State) (p : PortId) (f : Port → Port) : s.KeepsAttention (s.modPort p f) :=
  .of_eq (s.attention_modPort p f)

theorem State.keepsAttention_completeTraining (s : State) (p : PortId) : s.KeepsAttention (s.completeTraining p) := by
  unfold State.completeTraining
  split
  · cases p
    · exact (s.keepsAttention_modPort .upper _).trans (State.keepsAttention_announceIfDue _)
    · exact (s.keepsAttention_modPort .lower _).trans (State.keepsAttention_raiseFlag _ _)
  · exact .refl s

/-! ### Link losses and what is received (R113, R124) -/

theorem State.keepsAttention_loseLower (s : State) (next : Port → Port) : s.KeepsAttention (s.loseLower next) := by
  refine State.KeepsAttention.trans ?_ (State.keepsAttention_raiseFlag _ _)
  exact .of_eq (State.attention_settle _)

theorem State.keepsAttention_loseLink (s : State) (p : PortId) : s.KeepsAttention (s.loseLink p) := by
  cases p
  · have hlost : s.loseLink .upper = s.loseUpper := rfl
    rw [hlost, State.loseUpper]
    split
    · exact fun _ => Attention.agrees_atReset
    · exact fun _ => Attention.agrees_atUpperLoss _
  · exact s.keepsAttention_loseLower _

theorem State.keepsAttention_failCheck (s : State) (p : PortId) : s.KeepsAttention (s.failCheck p) := by
  have hcount := s.keepsAttention_modPort p Port.countCheckFailure
  unfold State.failCheck
  dsimp only
  split
  · exact hcount.trans (State.keepsAttention_loseLink _ p)
  · exact hcount

theorem State.keepsAttention_receiveUpper (s : State) (chars : List PacketChar) :
    s.KeepsAttention (s.receiveUpper chars) := by
  unfold State.receiveUpper
  split
  · exact s.keepsAttention_failCheck .upper
  all_goals exact .of_eq rfl

theorem State.keepsAttention_receiveLower (s : State) (chars : List PacketChar) :
    s.KeepsAttention (s.receiveLower chars) := by
  unfold State.receiveLower
  split
  · exact s.keepsAttention_failCheck .lower
  · exact .of_eq rfl
  · exact .of_eq rfl
  · exact .of_eq (s.attention_relay _)

theorem State.keepsAttention_receivePacket (s : State) (p : PortId) (chars : List PacketChar) :
    s.KeepsAttention (s.receivePacket p chars) := by
  have hheard := s.keepsAttention_modPort p Port.heard
  unfold State.receivePacket
  split
  · exact .refl s
  dsimp only
  split
  · exact hheard.trans (State.keepsAttention_modPort _ p _)
  · cases p
    · exact hheard.trans (State.keepsAttention_receiveUpper _ chars)
    · exact hheard.trans (State.keepsAttention_receiveLower _ chars)

theorem State.keepsAttention_receiveHello (s : State) (p : PortId) (capacity : Nat) (ready : Bool) :
    s.KeepsAttention (s.receiveHello p capacity ready) := by
  unfold State.receiveHello
  split
  · exact .refl s
  · split
    · exact s.keepsAttention_modPort p _
    · exact (s.keepsAttention_modPort p _).trans (State.keepsAttention_completeTraining _ p)
  · split
    · exact s.keepsAttention_modPort p _
    · exact s.keepsAttention_loseLink p

/-! ### The upper transmitter (R118, R147) -/

theorem State.keepsAttention_sendMgmtResponse (s : State) : s.KeepsAttention s.sendMgmtResponse := by
  unfold State.sendMgmtResponse
  split
  · exact .refl s
  split
  · exact .refl s
  split
  · exact .refl s
  dsimp only
  split
  · exact fun _ => Attention.agrees_atReset
  · exact .of_eq rfl

theorem State.attention_sendLocalResponse (s : State) : s.sendLocalResponse.attention = s.attention := by
  unfold State.sendLocalResponse
  split
  · rfl
  split
  · rfl
  · exact State.attention_freeRecord _ _

theorem State.attention_sendRefusal (s : State) : s.sendRefusal.attention = s.attention := by
  unfold State.sendRefusal
  split
  · rfl
  · exact State.attention_settle _

theorem State.attention_sendRelay (s : State) : s.sendRelay.attention = s.attention := by
  unfold State.sendRelay
  split <;> rfl

theorem State.keepsAttention_arbitrate (s : State) : s.KeepsAttention s.arbitrate := by
  unfold State.arbitrate
  split
  · exact fun hs => hs.sent
  split
  · exact s.keepsAttention_sendMgmtResponse
  · exact .of_eq s.attention_sendLocalResponse
  · exact .of_eq s.attention_sendRefusal
  · exact .of_eq s.attention_sendRelay
  · exact .refl s

/-! ### The tap ports (R78, R84, R91) -/

theorem State.keepsAttention_examine (s : State) (k : Fin 4) : s.KeepsAttention (s.examine k) := by
  unfold State.examine
  split
  · exact .refl s
  split
  · exact .refl s
  split
  · refine State.KeepsAttention.trans ?_ (State.keepsAttention_raiseFlag _ _)
    exact .of_eq rfl
  · exact .of_eq rfl

theorem State.keepsAttention_takeByte (s : State) (k : Fin 4) (b : Byte) : s.KeepsAttention (s.takeByte k b) := by
  have hdones : ∀ (f : Tap → Tap) (l : List Transfer),
      s.KeepsAttention (l.foldl (fun c x => c.takeDone k x) (s.modTap k f)) :=
    fun f l => .of_eq (State.attention_takeDones _ k l)
  unfold State.takeByte
  dsimp only
  split
  · exact (hdones _ _).trans (State.keepsAttention_examine _ k)
  · exact hdones _ _

theorem State.keepsAttention_timeOut (s : State) (k : Fin 4) : s.KeepsAttention (s.timeOut k) := by
  unfold State.timeOut
  split
  · exact .refl s
  split
  · exact .refl s
  · refine State.KeepsAttention.trans (.of_eq ?_) (State.keepsAttention_raiseFlag _ _)
    rw [State.attention_faultTap, State.attention_endIssued]
    rfl

theorem State.keepsAttention_sampleLine (s : State) (k : Fin 4) (line : LineId) (level : Bool) :
    s.KeepsAttention (s.sampleLine k line level) := by
  unfold State.sampleLine
  split
  · exact .refl s
  dsimp only
  split
  · refine State.KeepsAttention.trans ?_ (State.keepsAttention_raiseFlag _ _)
    exact .of_eq rfl
  · exact .of_eq rfl

/-- In ANNOUNCED a timer and a packet are in order (R115, R120). -/
theorem State.keepsAttention_reAnnounce {s : State} {newList : BitVec 17} (h : s.attention.newList = some newList) :
    s.KeepsAttention (s.reAnnounce newList) :=
  fun hs => ⟨hs.announcedSet, fun hquiet => absurd (h.symm.trans hquiet) (by simp)⟩

/-! ### Management operations -/

theorem State.keepsAttention_begin {op : Op} {body : State → List Word → Begun}
    (hbody : ∀ (u : State) ws, u.KeepsAttention ((body u ws).state u)) (s : State) :
    s.KeepsAttention (s.begin op body) := by
  obtain ⟨u, v, rs, rs', rfl, hv, h⟩ := s.begin_outcome op body
  rw [h]
  obtain rfl | ⟨ws, rfl⟩ := hv
  · exact .of_eq rfl
  · exact hbody { s with records := rs } ws

theorem State.keepsAttention_readAttentionBody (s : State) (ws : List Word) :
    s.KeepsAttention ((readAttentionBody s ws).state s) := by
  unfold readAttentionBody
  split
  · split
    · exact .refl s
    · dsimp only [Begun.state_done]
      split
      · exact fun hs => hs.clear _
      · exact .refl s
  · exact .refl s

theorem State.keepsAttention_clearAttentionBody (s : State) (ws : List Word) :
    s.KeepsAttention ((clearAttentionBody s ws).state s) := by
  unfold clearAttentionBody
  split
  · split
    · exact .refl s
    · exact fun hs => hs.clear _
  · exact .refl s

theorem State.keepsAttention_setAttentionEnablesBody (s : State) (ws : List Word) :
    s.KeepsAttention ((setAttentionEnablesBody s ws).state s) := by
  unfold setAttentionEnablesBody
  split
  · split
    next m on _ _ =>
      have henable : s.KeepsAttention (s.modAttention fun a => a.enable m on) := fun hs => hs.enable m on
      exact henable.trans (State.keepsAttention_announceIfDue _)
    · exact .refl s
  · exact .refl s

theorem State.keepsAttention_acknowledgeAttentionBody (s : State) (ws : List Word) :
    s.KeepsAttention ((acknowledgeAttentionBody s ws).state s) := by
  unfold acknowledgeAttentionBody
  split
  · split
    · exact .refl s
    · split
      · exact .refl s
      · have hquiet : s.KeepsAttention (s.modAttention Attention.acknowledge) := fun hs => hs.acknowledge
        exact hquiet.trans (State.keepsAttention_announceIfDue _)
  · exact .refl s

/-- Set Parameter reaches the attention unit by the loss of the lower link (R145, R175). -/
theorem State.keepsAttention_applyEnable (s : State) (before after : Bool) :
    s.KeepsAttention (s.applyEnable before after) := by
  unfold State.applyEnable
  split
  · exact .refl s
  split
  · exact .of_eq rfl
  split
  · exact s.keepsAttention_loseLower _
  · exact .of_eq rfl

theorem State.keepsAttention_setParameterBody (s : State) (ws : List Word) :
    s.KeepsAttention ((setParameterBody s ws).state s) := by
  unfold setParameterBody
  split
  · split
    · exact .refl s
    next p _ =>
      dsimp only
      split
      · refine State.KeepsAttention.trans ?_ (State.keepsAttention_applyEnable _ _ _)
        exact .of_eq rfl
      · exact .refl s
  · exact .refl s

/-! ### Every command -/

theorem State.KeepsAttention.of_taken {s u t : State} (h : s.taken u = .next t) (hu : s.KeepsAttention u) :
    s.KeepsAttention t := by
  rw [State.eq_of_taken h]
  split
  · exact .refl s
  · exact hu

theorem State.keepsAttention_exec {c : Instr} {s t : State} (h : exec c s = .next t) : s.KeepsAttention t := by
  by_cases hc : reachesAttention c = false
  · exact .of_eq (State.attention_exec hc h)
  cases c with
  | powerUpReset =>
    cases h
    exact fun _ => Attention.agrees_atReset
  | packetReceived port chars => exact .of_taken h (s.keepsAttention_receivePacket port chars)
  | helloReceived port payload =>
    refine .of_taken h ?_
    split
    · exact s.keepsAttention_receiveHello port _ _
    · exact s.keepsAttention_modPort port _
  | helloPeriod port =>
    refine .of_taken h ?_
    split
    · exact (s.keepsAttention_modPort port _).trans (State.keepsAttention_completeTraining _ port)
    · exact .refl s
  | silenceTimeout port =>
    refine .of_taken h ?_
    split
    · exact s.keepsAttention_loseLink port
    · exact .refl s
  | arbiterSend =>
    refine .of_taken h ?_
    split
    · exact s.keepsAttention_arbitrate
    · exact .refl s
  | examineHead tap =>
    refine .of_taken h ?_
    split
    · exact s.keepsAttention_examine tap
    · exact .refl s
  | tapAcknowledge tap input =>
    cases input with
    | dataByte b => exact .of_taken h (s.keepsAttention_takeByte tap b)
    | _ => exact absurd rfl hc
  | ackTimeout tap =>
    refine .of_taken h ?_
    split
    · exact s.keepsAttention_timeOut tap
    · exact .refl s
  | attentionLineAsserted tap line => exact .of_taken h (s.keepsAttention_sampleLine tap line true)
  | attentionLineReleased tap line => exact .of_taken h (s.keepsAttention_sampleLine tap line false)
  | reAnnounce =>
    refine .of_taken h ?_
    split
    next newList hlist =>
      split
      · exact State.keepsAttention_reAnnounce hlist
      · exact .refl s
    · exact .refl s
  | readAttention => exact .of_taken h (State.keepsAttention_begin State.keepsAttention_readAttentionBody s)
  | clearAttention => exact .of_taken h (State.keepsAttention_begin State.keepsAttention_clearAttentionBody s)
  | setAttentionEnables =>
    exact .of_taken h (State.keepsAttention_begin State.keepsAttention_setAttentionEnablesBody s)
  | acknowledgeAttention =>
    exact .of_taken h (State.keepsAttention_begin State.keepsAttention_acknowledgeAttentionBody s)
  | setParameter => exact .of_taken h (State.keepsAttention_begin State.keepsAttention_setParameterBody s)
  | _ => exact absurd rfl hc

theorem State.keepsAttention_tick (s : State) : s.KeepsAttention s.tick := by
  unfold State.tick
  split
  · exact .refl s
  · exact fun hs => hs.tick

theorem State.keepsAttention_step {s t : State} (h : step s = .next t) : s.KeepsAttention t := by
  unfold step at h
  split at h
  · cases h
    exact s.keepsAttention_tick
  next c rest _ =>
    have hqueue : s.KeepsAttention { s with pending := rest } := .of_eq rfl
    exact hqueue.trans (State.keepsAttention_exec h)

/-- Settles O55: an announced flag was eligible and so set, and every event that brings the announcer to QUIET stops its
timer and drops its packet. -/
theorem stepKeepsAttentionAgrees : Obligations.StepKeepsAttentionAgrees :=
  fun _ _ hs h => State.attentionAgrees_iff.2 (State.keepsAttention_step h (State.attentionAgrees_iff.1 hs))

end Sys2Proof.Machine

/-! ## Training and the arbiter's order -/

namespace Sys2Proof.Machine

/-! ### The arbiter's order (R181) -/

theorem State.arbitrate_attention {s : State} {a : AttnPacket} (h : s.attention.packet = some a) :
    s.arbitrate = s.sendAttention a := by
  simp only [State.arbitrate, h]

theorem State.arbitrate_none {s : State} (hpacket : s.attention.packet = none) (hchosen : s.chosen? = none) :
    s.arbitrate = s := by
  simp only [State.arbitrate, hpacket, hchosen]

/-- With no packet waiting at all, the arbiter sends none, whatever its port may send. -/
theorem State.exec_arbiterSend_none {s : State} (hchosen : s.chosen? = none) (hpacket : s.attention.packet = none) :
    exec .arbiterSend s = .next s := by
  have hexec : exec .arbiterSend s = s.taken (if s.upper.maySend then s.arbitrate else s) := rfl
  rw [hexec, State.arbitrate_none hpacket hchosen, ite_self, State.taken, ite_self]

/-- Settles O19: the pending packet is looked at first, and `State.chosen?` finds the first source of the four that
waits. -/
theorem arbiterOrder : Obligations.ArbiterOrder := by
  refine ⟨fun s a hsend hpacket => ?_, fun s => ⟨fun h0 => ?_, fun h0 h1 => ?_, fun h0 h1 h2 => ?_,
    fun h0 h1 h2 h3 => ?_, State.exec_arbiterSend_none⟩, rfl, rfl, rfl, rfl⟩
  · rw [State.exec_arbiterSend hsend, State.arbitrate_attention hpacket]
    rfl
  · simp only [State.chosen?, List.find?_cons, h0]
  · simp only [State.chosen?, List.find?_cons, h0, h1]
  · simp only [State.chosen?, List.find?_cons, h0, h1, h2]
  · simp only [State.chosen?, List.find?_cons, h0, h1, h2, h3]

/-! ### Training (R125, R172, R173) -/

/-- A port in TRAINING is trained when its three marks are set (R173). -/
theorem Port.trained_of_training {x : Port} (h : x.state = .training) :
    x.trained = (x.reachedThree && x.readySeen && x.readySent) := by
  simp [Port.trained, h]

theorem State.completeTraining_of_not_trained {s : State} {p : PortId} (h : (s.port p).trained = false) :
    s.completeTraining p = s :=
  if_neg (by simp [h])

theorem State.completeTraining_upper {s : State} (h : s.upper.trained = true) :
    s.completeTraining .upper = (s.modPort .upper Port.enterUp).announceIfDue := if_pos h

theorem State.completeTraining_lower {s : State} (h : s.lower.trained = true) :
    s.completeTraining .lower = (s.modPort .lower Port.enterUp).raiseFlag lowerLinkFlag := if_pos h

/-- An event that has changed the attention unit alone, written with the unit it has left. -/
theorem State.eq_of_attention_changes {s t : State} (h : ∃ a, t = { s with attention := a }) :
    t = { s with attention := t.attention } := by
  obtain ⟨a, rfl⟩ := h
  rfl

/-- A port that completes its training enters UP and changes the attention unit alone besides: LOWER_LINK is raised
below, and the announcement is made above if it is due (R113, R125, R173). -/
theorem State.completeTraining_of_trained {s : State} {p : PortId} {x : Port} (h : x.trained = true) :
    ∃ t, (s.setPort p x).completeTraining p = t ∧ t = { s.setPort p x.enterUp with attention := t.attention } ∧
      (p = .lower → s.FlagRaised t lowerLinkFlag) ∧ (p = .upper → t.attention = s.announced .up s.attention) := by
  cases p with
  | upper =>
    have hframe := State.eq_of_attention_changes (s.setPort .upper x.enterUp).announceIfDue_changes
    have hattention := (s.setPort .upper x.enterUp).attention_announceIfDue
    exact ⟨_, State.completeTraining_upper h, hframe, nofun, fun _ => hattention⟩
  | lower =>
    have hframe := State.eq_of_attention_changes ((s.setPort .lower x.enterUp).raiseFlag_changes lowerLinkFlag)
    have hraised := (s.setPort .lower x.enterUp).flagRaised_raiseFlag lowerLinkFlag
    exact ⟨_, State.completeTraining_lower h, hframe, fun _ => hraised, nofun⟩

theorem State.exec_helloReceived_training {s : State} {p : PortId} {payload : Word} (hlow : s.resetLow = false)
    (htraining : (s.port p).state = .training) (hintact : helloIntact payload = true) :
    exec (.helloReceived p payload) s = .next
      (if helloCapacity payload = 0 then s.modPort p fun x => { x with run := 0 }
      else (s.modPort p fun x => x.goodHello (helloCapacity payload) (helloReady payload)).completeTraining p) := by
  have hexec : exec (.helloReceived p payload) s = execHelloReceived p payload s := rfl
  rw [hexec, execHelloReceived, State.taken_of_released hlow, if_pos hintact, State.receiveHello, htraining]

theorem State.exec_helloPeriod_training {s : State} {p : PortId} (hlow : s.resetLow = false)
    (htraining : (s.port p).state = .training) (htimer : (s.port p).helloTimer = some 0) :
    exec (.helloPeriod p) s = .next ((s.modPort p Port.sendHello).completeTraining p) := by
  have hexec : exec (.helloPeriod p) s = execHelloPeriod p s := rfl
  rw [hexec, execHelloPeriod, State.taken_of_released hlow, if_pos ⟨htraining, (Timer.due_iff _).2 htimer⟩]

theorem State.exec_trainingRestart_training {s : State} {p : PortId} (hlow : s.resetLow = false)
    (htraining : (s.port p).state = .training) (htimer : (s.port p).trainTimer = some 0) :
    exec (.trainingRestart p) s = .next (s.modPort p Port.restartTraining) := by
  have hexec : exec (.trainingRestart p) s = execTrainingRestart p s := rfl
  rw [hexec, execTrainingRestart, State.taken_of_released hlow, if_pos ⟨htraining, (Timer.due_iff _).2 htimer⟩]

/-- Settles O11: a HELLO received or sent changes its port's marks, and `State.completeTraining` then looks at them. -/
theorem trainingBringsAPortUp : Obligations.TrainingBringsAPortUp := by
  intro s p hlow htraining
  refine ⟨fun c x hc => ?_, fun payload hintact hcap => ?_, State.exec_trainingRestart_training hlow htraining⟩
  · have hexec : exec c s = .next ((s.setPort p x).completeTraining p) ∧ x.state = .training := by
      obtain ⟨payload, rfl, hintact, hcap, rfl⟩ | ⟨rfl, htimer, rfl⟩ := hc
      · rw [State.exec_helloReceived_training hlow htraining hintact, if_neg (by omega)]
        exact ⟨rfl, htraining⟩
      · exact ⟨State.exec_helloPeriod_training hlow htraining htimer, htraining⟩
    obtain ⟨hexec, hx⟩ := hexec
    rw [hexec, ← Port.trained_of_training hx]
    refine ⟨fun h => ?_, fun h => ?_⟩
    · rw [State.completeTraining_of_not_trained (by rw [State.port_setPort_self, h])]
    · obtain ⟨t, ht, hframe, hlower, hupper⟩ := State.completeTraining_of_trained (s := s) (p := p) h
      exact ⟨t, congrArg _ ht, hframe, hlower, hupper⟩
  · rw [State.exec_helloReceived_training hlow htraining hintact, if_pos hcap]
    rfl

end Sys2Proof.Machine

/-! ## The attention unit's commands, and the reads that clear -/

namespace Sys2Proof.Machine

/-! ### Re-announcement (R118, R120) -/

theorem State.exec_reAnnounce {s : State} {newList : BitVec 17} (hlow : s.resetLow = false)
    (hlist : s.attention.newList = some newList) (htimer : s.attention.timer = some 0) :
    exec .reAnnounce s = .next (s.reAnnounce newList) := by
  have hexec : exec .reAnnounce s = execReAnnounce s := rfl
  rw [hexec, execReAnnounce, State.taken_of_released hlow, hlist]
  exact congrArg _ (if_pos ((Timer.due_iff _).2 htimer))

/-- Settles O37: the re-announcement is written as the statement gives it; what is left is that its event comes
about. -/
theorem reAnnouncementRepeatsTheSequence : Obligations.ReAnnouncementRepeatsTheSequence :=
  fun _ _ => State.exec_reAnnounce

/-! ### Reads that clear (R111, R122, R140) -/

theorem State.anyHeld_iff {s : State} : s.anyHeld = true ↔ ∃ k, (s.tap k).state = .held := by
  simp only [State.anyHeld, List.any_eq_true, Vector.mem_toList_iff, Vector.mem_iff_getElem, beq_iff_eq]
  constructor
  · rintro ⟨_, ⟨k, hk, rfl⟩, h⟩
    exact ⟨⟨k, hk⟩, h⟩
  · rintro ⟨k, h⟩
    exact ⟨_, ⟨k.val, k.isLt, rfl⟩, h⟩

/-- The clear outcome's number, from what was asked and whether a held tap protects the values (R111, R189). -/
theorem State.num_clearOutcome {s : State} {clear : Bool} {outcome : Nat}
    (h : let blocked := (∃ k, (s.tap k).state = .held) ∧ s.mgmt.params.clearWhileHeld = false
      (clear = false ∧ outcome = 0) ∨ (clear = true ∧ ¬ blocked ∧ outcome = 1) ∨
        (clear = true ∧ blocked ∧ outcome = 2)) : (s.clearOutcome clear).num = outcome := by
  have hblocked : (s.anyHeld && !s.mgmt.params.clearWhileHeld) = true ↔
      (∃ k, (s.tap k).state = .held) ∧ s.mgmt.params.clearWhileHeld = false := by
    simp [State.anyHeld_iff]
  rw [State.clearOutcome]
  simp only [hblocked]
  obtain ⟨rfl, rfl⟩ | ⟨rfl, hnot, rfl⟩ | ⟨rfl, hyes, rfl⟩ := h
  · rfl
  · rw [if_neg hnot]
    rfl
  · rw [if_pos hyes]
    rfl

theorem ClearOutcome.num_eq_one {o : ClearOutcome} : o.num = 1 ↔ o = .cleared := by
  cases o <;> simp [ClearOutcome.num]

theorem Attention.words_eq (a : Attention) (o : ClearOutcome) :
    a.words o = [a.flagsSet.setWidth 32, a.flagsEnabled.setWidth 32, a.flagsAnnounced.setWidth 32,
      pack [(1, a.newList.isSome.toNat), (8, a.sequence.toNat), (2, o.num)]] := by
  simp [Attention.words, Attention.quiet]

/-- Clearing every flag that is set leaves none (R122). -/
theorem Attention.clear_flagsSet (a : Attention) : a.clear a.flagsSet =
    { a with flagsSet := 0, flagsAnnounced := a.flagsAnnounced &&& ~~~a.flagsSet } := by
  simp [Attention.clear]

theorem State.exec_readAttention {s : State} {i : Fin 3} {r : MgmtRecord} {clear : Bool}
    (h : s.Ready i r .readAttention [one clear.toNat]) :
    exec .readAttention s = .next
      ((if s.clearOutcome clear = .cleared then s.modAttention fun a => a.clear a.flagsSet else s).mgmtAnswered i r .ok
        (s.attention.words (s.clearOutcome clear))) := by
  have hbody : readAttentionBody (s.startMgmt i r) [one clear.toNat] = .done (s.attention.words (s.clearOutcome clear))
      (if s.clearOutcome clear = .cleared then (s.startMgmt i r).modAttention fun a => a.clear a.flagsSet
        else s.startMgmt i r) := by
    simp only [readAttentionBody, flag?_one]
    rfl
  refine State.taken_done h rfl ⟨_, hbody, ?_⟩
  split <;> exact ⟨rfl, rfl⟩

theorem group?_port (p : PortId) : group? (one (match p with | .upper => 0 | .lower => 1)).toNat = some (.port p) := by
  cases p <;> rfl

theorem group?_tap (k : Fin 4) : group? (one (k.val + 2)).toNat = some (.tap k) := by
  revert k
  decide

theorem group?_none {v : Nat} (h : 7 ≤ v) : group? v = none := by
  rw [group?, if_neg (by omega), if_neg (by omega), if_neg (by omega), index?_none (by omega)]
  rfl

/-- A group's counters are cleared as well where a record has been begun. -/
theorem State.clearGroup_startMgmt (s : State) (i : Fin 3) (r : MgmtRecord) (g : Group) :
    ((s.startMgmt i r).clearGroup g).records = (s.startMgmt i r).records ∧
      ({ (s.startMgmt i r).clearGroup g with records := s.records } : State) = s.clearGroup g := by
  cases g with
  | port p => cases p <;> exact ⟨rfl, rfl⟩
  | tap k => exact ⟨rfl, rfl⟩
  | branch => exact ⟨rfl, rfl⟩

theorem State.groupCounts_startMgmt (s : State) (i : Fin 3) (r : MgmtRecord) (g : Group) :
    (s.startMgmt i r).groupCounts g = s.groupCounts g := by
  cases g with
  | port p => cases p <;> rfl
  | tap k => rfl
  | branch => rfl

theorem State.exec_readCounters {s : State} {i : Fin 3} {r : MgmtRecord} {clear : Bool} {w : Word} {g : Group}
    (h : s.Ready i r .readCounters [w, one clear.toNat]) (hg : group? w.toNat = some g) :
    exec .readCounters s = .next
      ((if s.clearOutcome clear = .cleared then s.clearGroup g else s).mgmtAnswered i r .ok
        ((s.groupCounts g).map (fun c => one c.toNat) ++ [one (s.clearOutcome clear).num])) := by
  have hbody : readCountersBody (s.startMgmt i r) [w, one clear.toNat] =
      .done ((s.groupCounts g).map (fun c => one c.toNat) ++ [one (s.clearOutcome clear).num])
        (if s.clearOutcome clear = .cleared then (s.startMgmt i r).clearGroup g else s.startMgmt i r) := by
    simp only [readCountersBody, hg, flag?_one, State.groupCounts_startMgmt]
    rfl
  refine State.taken_done h rfl ⟨_, hbody, ?_⟩
  split
  · exact s.clearGroup_startMgmt i r g
  · exact ⟨rfl, rfl⟩

theorem readCountersBody_refused (s : State) {w1 w2 : Word} (h : 7 ≤ w1.toNat ∨ 2 ≤ w2.toNat) :
    readCountersBody s [w1, w2] = .refuse .badOperand := by
  simp only [readCountersBody]
  split
  next g clear hg hclear =>
    rcases h with h | h
    · exact absurd hg (by simp [group?_none h])
    · exact absurd hclear (by simp [flag?_none h])
  · rfl

/-- Settles O47: the outcome's number is that of `State.clearOutcome`, and a read clears exactly when it is 1. -/
theorem clearOnReadIsProtected : Obligations.ClearOnReadIsProtected := by
  intro s i r clear blocked outcome houtcome
  obtain rfl : (s.clearOutcome clear).num = outcome := State.num_clearOutcome houtcome
  simp only [ClearOutcome.num_eq_one]
  refine ⟨fun h => ?_, fun p h => State.exec_readCounters h (group?_port p),
    fun k h => State.exec_readCounters h (group?_tap k), fun h => State.exec_readCounters h rfl,
    fun w1 w2 hbad h => ?_, fun w hw h => ?_⟩
  · rw [State.exec_readAttention h, Attention.words_eq, State.modAttention, Attention.clear_flagsSet]
  · exact State.taken_refuse h rfl (readCountersBody_refused _ hbad)
  · exact State.taken_refuse h rfl (by simp only [readAttentionBody, flag?_none hw])

/-! ### Clear Attention, Set Attention Enables, Acknowledge Attention (R119, R121, R123) -/

theorem mask?_setWidth (m : BitVec 17) : mask? (m.setWidth 32) = some m := by
  have hlt := m.isLt
  have hclear : clearAbove (m.setWidth 32) 17 = true := by
    refine decide_eq_true ?_
    rw [BitVec.toNat_setWidth]
    omega
  rw [mask?, if_pos hclear]
  refine congrArg some (BitVec.eq_of_toNat_eq ?_)
  rw [BitVec.extractLsb'_toNat, BitVec.toNat_setWidth]
  omega

theorem mask?_none {w : Word} (h : 2 ^ 17 ≤ w.toNat) : mask? w = none :=
  if_neg (by simp only [clearAbove, decide_eq_true_eq]; omega)

theorem setAttentionEnablesBody_refused (s : State) {w1 w2 : Word} (h : 2 ^ 17 ≤ w1.toNat ∨ 2 ≤ w2.toNat) :
    setAttentionEnablesBody s [w1, w2] = .refuse .badOperand := by
  simp only [setAttentionEnablesBody]
  split
  next m on hm hon =>
    rcases h with h | h
    · exact absurd hm (by simp [mask?_none h])
    · exact absurd hon (by simp [flag?_none h])
  · rfl

/-- An announcement, due or not, writes the attention unit and nothing else (R116, R117). -/
theorem State.announceIfDue_eq (s : State) :
    s.announceIfDue = { s with attention := s.announced s.upper.state s.attention } := by
  obtain ⟨a, h⟩ := s.announceIfDue_changes
  rw [← s.attention_announceIfDue, h]

/-- After an accepted acknowledge the announcer is QUIET, so that the port and the flags alone decide on an announcement
(R119). -/
theorem State.mayAnnounce_acknowledge (s : State) : (s.modAttention Attention.acknowledge).mayAnnounce = true ↔
    s.upper.state = .up ∧
      s.attention.flagsSet &&& s.attention.flagsEnabled &&& ~~~s.attention.flagsAnnounced ≠ 0 := by
  simp [State.mayAnnounce, Attention.acknowledge, Attention.quiet, Attention.eligible]

theorem toNat_eq_ite {b : Bool} {p : Prop} [Decidable p] (h : b = true ↔ p) : b.toNat = if p then 1 else 0 := by
  simp only [← h]
  cases b <;> rfl

/-- What the announcement, due or not, makes of the unit after an accepted acknowledge (R116, R119). -/
theorem State.announced_acknowledge (s : State) : s.announced s.upper.state s.attention.acknowledge =
    (let fresh := s.attention.flagsSet &&& s.attention.flagsEnabled &&& ~~~s.attention.flagsAnnounced
    if s.upper.state = .up ∧ fresh ≠ 0 then
      { s.attention with
        sequence := s.attention.sequence + 1, flagsAnnounced := s.attention.flagsAnnounced ||| fresh
        newList := some fresh, timer := reannounceTimer s.mgmt.params.reannounce
        packet := some { sequence := s.attention.sequence + 1, newList := fresh
                         setList := s.attention.flagsSet &&& s.attention.flagsEnabled } }
    else s.attention.acknowledge) := by
  simp only [State.announced, Attention.acknowledge, true_and, reannounceTimer]

theorem acknowledgeAttentionBody_outstanding {s : State} {w : Word} (hw : w.toNat < 256)
    (hlist : s.attention.newList ≠ none) (hseq : w.toNat = s.attention.sequence.toNat) :
    acknowledgeAttentionBody s [w] =
      .done [one (s.attention.sequence + 1).toNat, one (s.modAttention Attention.acknowledge).mayAnnounce.toNat]
        (s.modAttention Attention.acknowledge).announceIfDue := by
  have hquiet : ¬ (s.attention.quiet = true ∨ w.toNat ≠ s.attention.sequence.toNat) := by
    simp [Attention.quiet, hlist, hseq]
  simp only [acknowledgeAttentionBody, if_neg (Nat.not_le.2 hw), if_neg hquiet]
  rfl

theorem acknowledgeAttentionBody_stale {s : State} {w : Word} (hw : w.toNat < 256)
    (h : s.attention.newList = none ∨ w.toNat ≠ s.attention.sequence.toNat) :
    acknowledgeAttentionBody s [w] = .refuse .staleSequence := by
  have hquiet : s.attention.quiet = true ∨ w.toNat ≠ s.attention.sequence.toNat := by
    simpa [Attention.quiet] using h
  simp only [acknowledgeAttentionBody, if_neg (Nat.not_le.2 hw), if_pos hquiet]

/-- Settles O48: each body's edit of the attention unit, followed by the announcement where it may be due
(`State.announceIfDue_eq`). -/
theorem attentionOperationsAct : Obligations.AttentionOperationsAct := by
  intro s i r
  refine ⟨fun m h => ?_, fun m on h => ?_, fun w h hw => ⟨fun hlist hseq => ?_, fun hstale => ?_⟩,
    fun w a => ⟨fun hbad h => ?_, fun hbad h => ?_, fun hbad h => ?_⟩⟩
  · have hbody : clearAttentionBody (s.startMgmt i r) [m.setWidth 32] =
        .done [] ((s.startMgmt i r).modAttention fun a => a.clear m) := by
      simp only [clearAttentionBody, mask?_setWidth]
    exact State.taken_done h rfl ⟨_, hbody, rfl, rfl⟩
  · have hbody : setAttentionEnablesBody (s.startMgmt i r) [m.setWidth 32, one on.toNat] =
        .done [(s.attention.enable m on).flagsEnabled.setWidth 32]
          ((s.startMgmt i r).modAttention fun a => a.enable m on).announceIfDue := by
      simp only [setAttentionEnablesBody, mask?_setWidth, flag?_one]
      rfl
    rw [State.announceIfDue_eq] at hbody
    exact State.taken_done h rfl ⟨_, hbody, rfl, rfl⟩
  · have hbody := acknowledgeAttentionBody_outstanding (s := s.startMgmt i r) hw hlist hseq
    rw [State.announceIfDue_eq, toNat_eq_ite (State.mayAnnounce_acknowledge _)] at hbody
    exact State.taken_done h rfl ⟨_, hbody, rfl,
      congrArg (fun a => ({ s with attention := a } : State)) s.announced_acknowledge⟩
  · exact State.taken_refuse h rfl (acknowledgeAttentionBody_stale (s := s.startMgmt i r) hw hstale)
  · exact State.taken_refuse h rfl (by simp only [clearAttentionBody, mask?_none hbad])
  · exact State.taken_refuse h rfl (setAttentionEnablesBody_refused _ hbad)
  · exact State.taken_refuse h rfl (if_pos hbad)

end Sys2Proof.Machine

/-! ## The catalogue of management operations, and Set Parameter -/

namespace Sys2Proof.Machine

/-! ### What begins an operation (R129, R130) -/

/-- The body of each operation of the catalogue: its own checks and effect. -/
def Op.body : Op → State → List Word → Begun
  | .readIdentity => readIdentityBody
  | .readBranchStatus => readBranchStatusBody
  | .readRecord => readRecordBody
  | .readCounters => readCountersBody
  | .writeEntry => writeEntryBody
  | .readEntry => readEntryBody
  | .clearBank => clearBankBody
  | .setMissAction => setMissActionBody
  | .verifyBank => verifyBankBody
  | .openBank => openBankBody
  | .selectBank => selectBankBody
  | .clearHitCounts => clearHitCountsBody
  | .tapEnable => tapEnableBody
  | .tapDisable => tapDisableBody
  | .tapRecover => tapRecoverBody
  | .setTapLines => setTapLinesBody
  | .readTapStatus => readTapStatusBody
  | .setWatch => setWatchBody
  | .disarmWatch => disarmWatchBody
  | .readWatch => readWatchBody
  | .releaseHold => releaseHoldBody
  | .discardHold => discardHoldBody
  | .readHeldRequest => readHeldRequestBody
  | .readAttention => readAttentionBody
  | .clearAttention => clearAttentionBody
  | .setAttentionEnables => setAttentionEnablesBody
  | .acknowledgeAttention => acknowledgeAttentionBody
  | .setParameter => setParameterBody
  | .readParameter => readParameterBody
  | .branchReset => branchResetBody

/-- Every operation's command begins the operation with its body. -/
theorem State.exec_command (s : State) (op : Op) : exec op.command s = s.taken (s.begin op op.body) := by
  cases op <;> rfl

/-- An operation that the record to begin does not hold, or with none to begin, is not begun (log 1). -/
theorem State.begin_elsewhere {s : State} {op : Op} (body : State → List Word → Begun)
    (h : ∀ i r, s.beginnable? = some (i, r) → r.operation ≠ op.code) : s.begin op body = s := by
  unfold State.begin
  split
  next i r hbegin => exact if_neg (h i r hbegin)
  · rfl

/-- What is taken without an effect leaves the state. -/
theorem State.taken_self (s : State) : s.taken s = .next s := congrArg _ (ite_self s)

theorem State.exec_command_elsewhere {s : State} {op : Op}
    (h : ∀ i r, s.beginnable? = some (i, r) → r.operation ≠ op.code) : exec op.command s = .next s := by
  rw [s.exec_command, State.begin_elsewhere op.body h, s.taken_self]

/-! ### Unknown operations and wrong operand counts (R130, R134) -/

theorem Op.mem_catalogue (op : Op) : op ∈ Op.catalogue := by
  cases op <;> decide

theorem knownOperation_iff {code : BitVec 8} : knownOperation code = true ↔ ∃ op : Op, op.code = code := by
  simp [knownOperation, Op.mem_catalogue]

theorem State.exec_unknownOperation {s : State} {i : Fin 3} {r : MgmtRecord} (h : s.CanBegin i r)
    (hunknown : ∀ op : Op, r.operation ≠ op.code) :
    exec .unknownOperation s = .next (s.mgmtAnswered i r .badOperation []) := by
  have hexec : exec .unknownOperation s = execUnknownOperation s := rfl
  have hnot : ¬ knownOperation r.operation = true := fun hknown =>
    have ⟨op, hop⟩ := knownOperation_iff.1 hknown
    hunknown op hop.symm
  rw [hexec, execUnknownOperation, State.taken_of_released h.1, h.beginnable]
  dsimp only
  rw [if_neg hnot, State.finishMgmt_started h rfl]
  rfl

theorem State.exec_command_wrong_count {s : State} {i : Fin 3} {r : MgmtRecord} {op : Op} {ws : List Word}
    (h : s.Ready i r op ws) (hcount : ws.length ≠ op.operandCount) :
    exec op.command s = .next (s.mgmtAnswered i r .badOperand []) := by
  rw [s.exec_command, State.taken_of_released h.1.1, State.begin_wrong_count h op.body hcount,
    State.finishMgmt_started h.1 rfl]
  rfl

/-- Settles O38: the catalogue holds every operation, so that a code that none of them has is unknown. -/
theorem unknownAndMiscountedOperationsAreRefused : Obligations.UnknownAndMiscountedOperationsAreRefused :=
  fun _ _ _ h => ⟨State.exec_unknownOperation h,
    fun _ hop hcount => State.exec_command_wrong_count ⟨h, hop, rfl⟩ hcount⟩

/-! ### Parameters (R142, R143) -/

/-- The identifier of a parameter (R142). -/
def Param.num : Param → Nat
  | .ackLimit k => k.val
  | .retryLimit => 4
  | .retryDelay => 5
  | .waitLimit => 6
  | .reannounce => 7
  | .clearWhileHeld => 8
  | .lowerEnable => 9

theorem param?_eq_some_iff {v : Nat} {p : Param} : param? v = some p ↔ v = p.num := by
  constructor
  · intro h
    unfold param? at h
    split at h
    iterate 6
      · cases h
        rfl
    · obtain ⟨k, hk, rfl⟩ := Option.map_eq_some_iff.1 h
      unfold index? at hk
      split at hk
      · cases hk
        rfl
      · exact absurd hk (by simp)
  · rintro rfl
    cases p with
    | ackLimit k =>
      revert k
      decide
    | _ => rfl

theorem setParameterBody_refused (s : State) {w v : Word}
    (h : ∀ p : Param, w.toNat = p.num → p.inRange v.toNat = false) :
    setParameterBody s [w, v] = .refuse .badOperand := by
  simp only [setParameterBody]
  split
  · rfl
  next p hp => exact if_neg (by simp [h p (param?_eq_some_iff.1 hp)])

theorem setParameterBody_eq (s : State) {w v : Word} {p : Param} (hp : w.toNat = p.num)
    (hv : p.inRange v.toNat = true) :
    setParameterBody s [w, v] = .done [one (s.mgmt.params.get p)]
      (({ s with mgmt := { s.mgmt with params := s.mgmt.params.put p v.toNat } } : State).applyEnable
        s.mgmt.params.lowerEnable (s.mgmt.params.put p v.toNat).lowerEnable) := by
  simp only [setParameterBody, param?_eq_some_iff.2 hp, if_pos hv]

theorem State.applyEnable_same (s : State) (b : Bool) : s.applyEnable b b = s := if_pos rfl

theorem State.applyEnable_on (s : State) :
    s.applyEnable false true = { s with lower := s.lower.enterTraining } := rfl

theorem State.applyEnable_off {s : State} (h : s.lower.state ≠ .up) :
    s.applyEnable true false = { s with lower := s.lower.enterDown } := if_neg h

theorem State.applyEnable_off_up {s : State} (h : s.lower.state = .up) :
    s.applyEnable true false = s.loseLower Port.enterDown := if_pos h

/-- Set Parameter with lower port enable as it was: the parameter takes its value, and the lower port is left (R143). -/
theorem State.exec_setParameter {s : State} {i : Fin 3} {r : MgmtRecord} {w v : Word} {p : Param}
    (h : s.Ready i r .setParameter [w, v]) (hp : w.toNat = p.num) (hv : p.inRange v.toNat = true)
    (hkept : (s.mgmt.params.put p v.toNat).lowerEnable = s.mgmt.params.lowerEnable) :
    exec .setParameter s = .next
      (({ s with mgmt := { s.mgmt with params := s.mgmt.params.put p v.toNat } } : State).mgmtAnswered i r .ok
        [one (s.mgmt.params.get p)]) := by
  have hbody := setParameterBody_eq (s.startMgmt i r) hp hv
  rw [State.mgmt_startMgmt, hkept, State.applyEnable_same] at hbody
  exact State.taken_done h rfl ⟨_, hbody, rfl, rfl⟩

theorem toNat_one_tap (k : Fin 4) : (one k.val).toNat = k.val := by
  revert k
  decide

theorem flag_beq_one (b : Bool) : ((one b.toNat).toNat == 1) = b := by
  cases b <;> rfl

theorem decide_toNat_one_le (b : Bool) : decide ((one b.toNat).toNat ≤ 1) = true := by
  cases b <;> rfl

/-! ### Lower port enable (R145, R171, R175) -/

/-- The state with another lower port, record table and parameters, which what follows a lower link loss does not look
at, but for the re-announce interval. -/
def State.besides (s : State) (l : Port) (rs : RecordTable) (q : Params) : State :=
  { s with lower := l, records := rs, mgmt := { s.mgmt with params := q } }

theorem State.endStall_besides (s : State) (l : Port) (rs : RecordTable) (q : Params) :
    (s.besides l rs q).endStall = s.endStall.besides l rs q := by
  have hstall : (s.besides l rs q).classifier.stall = s.classifier.stall := rfl
  unfold State.endStall
  rw [hstall]
  split
  · rfl
  · by_cases hroom : s.lowerTx.length < queueCapacity
    · rw [if_pos hroom]
      exact if_pos hroom
    · rw [if_neg hroom]
      exact if_neg hroom
  · by_cases hroom : s.canRefuse = true
    · rw [if_pos hroom]
      exact if_pos hroom
    · rw [if_neg hroom]
      exact if_neg hroom

theorem State.settle_besides (s : State) (l : Port) (rs : RecordTable) (q : Params) :
    (s.besides l rs q).settle = s.settle.besides l rs q := s.drain.endStall_besides l rs q

theorem State.params_settle (s : State) : s.settle.mgmt.params = s.mgmt.params :=
  have h : s.settle = s.settle.besides s.lower s.records s.mgmt.params :=
    s.settle_besides s.lower s.records s.mgmt.params
  (congrArg (fun u : State => u.mgmt.params) h).trans rfl

theorem State.raiseFlag_besides (s : State) (n : Nat) (l : Port) (rs : RecordTable) {q : Params}
    (hq : q.reannounce = s.mgmt.params.reannounce) :
    (s.besides l rs q).raiseFlag n = (s.raiseFlag n).besides l rs q := by
  simp only [State.raiseFlag, State.announceIfDue_eq, State.announced, State.besides, hq]

/-- A lower link loss does the same to the rest of the part, whatever it leaves of the lower port. -/
theorem State.loseLower_besides (s : State) (next after : Port → Port) (l : Port) (rs : RecordTable) {q : Params}
    (hq : q.reannounce = s.mgmt.params.reannounce) :
    (s.besides l rs q).loseLower next = (s.loseLower after).besides (next l.countRetrain) rs q := by
  have hlost : (s.besides l rs q).lowerLost next = (s.lowerLost after).besides (next l.countRetrain) rs q := rfl
  have hparams : (s.lowerLost after).settle.mgmt.params = s.mgmt.params := State.params_settle _
  rw [State.loseLower_eq, State.loseLower_eq, hlost, State.settle_besides,
    State.raiseFlag_besides _ _ _ _ (by rw [hq, hparams])]

/-- The lower port that a lower link loss leaves (R175). -/
theorem State.lower_loseLower (s : State) (next : Port → Port) :
    (s.loseLower next).lower = next s.lower.countRetrain := by
  have h : s.loseLower next = (s.loseLower next).besides (next s.lower.countRetrain) s.records s.mgmt.params :=
    s.loseLower_besides next next s.lower s.records rfl
  exact (congrArg State.lower h).trans rfl

/-- Set Parameter of lower port enable, by what the change does to the lower port (R145). -/
theorem State.exec_setParameter_enable {s u : State} {i : Fin 3} {r : MgmtRecord} {before on : Bool}
    (h : s.Ready i r .setParameter [9, one on.toNat]) (hbefore : s.mgmt.params.lowerEnable = before)
    (hu : (s.besides s.lower (s.startMgmt i r).records { s.mgmt.params with lowerEnable := on }).applyEnable before on
      = { u with records := (s.startMgmt i r).records })
    (hrecords : u.records = s.records) :
    exec .setParameter s = .next (u.mgmtAnswered i r .ok [one before.toNat]) := by
  subst hbefore
  have hbody := setParameterBody_eq (s.startMgmt i r) (w := 9) (v := one on.toNat) (p := .lowerEnable) rfl
    (decide_toNat_one_le on)
  simp only [Params.put, flag_beq_one] at hbody
  refine State.taken_done h rfl ⟨_, hbody.trans (congrArg _ hu), rfl, ?_⟩
  rw [← hrecords]

/-- The state `u` but with lower port enable off and the lower port of `s` in DOWN, its counters those of `u`. -/
def State.disabledBelow (s u : State) : State :=
  { u with
    lower := { s.lower.enterDown with counters := u.lower.counters }
    mgmt := { u.mgmt with params := { s.mgmt.params with lowerEnable := false } } }

/-- The state in which the lower port's silence timer has run out. -/
def State.silentBelow (s : State) : State := { s with lower := { s.lower with silence := some 0 } }

/-- Lower port enable turned off while the port is UP: what the link loss does besides is what the silence timer's expiry
does (R175, R177). -/
theorem State.applyEnable_off_of_up {s : State} (hup : s.lower.state = .up) (rs : RecordTable) {q : Params}
    (hq : q.reannounce = s.mgmt.params.reannounce) : (s.besides s.lower rs q).applyEnable true false
      = (s.silentBelow.loseLower Port.enterTraining).besides s.lower.countRetrain.enterDown rs q := by
  have hstate : (s.silentBelow.besides s.lower rs q).lower.state = .up := hup
  have hsame : s.besides s.lower rs q = s.silentBelow.besides s.lower rs q := rfl
  rw [hsame, State.applyEnable_off_up hstate]
  exact s.silentBelow.loseLower_besides Port.enterDown Port.enterTraining s.lower rs hq

theorem State.exec_setParameter_off_up {s : State} {i : Fin 3} {r : MgmtRecord}
    (h : s.Ready i r .setParameter [9, one false.toNat]) (hbefore : s.mgmt.params.lowerEnable = true)
    (hup : s.lower.state = .up) : ∃ u, exec (.silenceTimeout .lower) s.silentBelow = .next u ∧
      exec .setParameter s = .next ((s.disabledBelow u).mgmtAnswered i r .ok [1]) := by
  have hloss : exec (.silenceTimeout .lower) s.silentBelow = .next (s.silentBelow.loseLower Port.enterTraining) :=
    State.exec_silenceTimeout (p := .lower) h.1.1 hup rfl
  have hlower := s.silentBelow.lower_loseLower Port.enterTraining
  have hrecords := (s.silentBelow.keepsRecords_loseLower Port.enterTraining).records
  have hoff := State.applyEnable_off_of_up hup (s.startMgmt i r).records
    (q := { s.mgmt.params with lowerEnable := false }) rfl
  generalize s.silentBelow.loseLower Port.enterTraining = u at hloss hlower hrecords hoff
  have hdown : s.disabledBelow u
      = u.besides s.lower.countRetrain.enterDown u.records { s.mgmt.params with lowerEnable := false } := by
    rw [State.disabledBelow, hlower]
    rfl
  refine ⟨u, hloss, ?_⟩
  rw [hdown]
  exact State.exec_setParameter_enable (on := false) h hbefore hoff hrecords

/-- Settles O49: the parameters but lower port enable leave the lower port, and the loss of the lower link is the same but
for the port that it leaves (`State.loseLower_besides`). -/
theorem setParameterActs : Obligations.SetParameterActs := by
  intro s i r v
  refine ⟨fun k h hlow hhigh => ?_, fun h hv => ?_, fun h hlow hhigh => ?_, fun h hv => ?_, fun h hv => ?_,
    fun on h => ?_, fun on h => ⟨fun hsame => ?_, fun hbefore hon => ?_, fun hbefore hoff hdown => ?_,
      fun hbefore hoff hup => ?_⟩, fun w hbad h => State.taken_refuse h rfl (setParameterBody_refused _ fun p hp => ?_)⟩
  · exact State.exec_setParameter (p := .ackLimit k) h (toNat_one_tap k) (decide_eq_true ⟨hlow, hhigh⟩) rfl
  · exact State.exec_setParameter (p := .retryLimit) h rfl (decide_eq_true hv) rfl
  · exact State.exec_setParameter (p := .retryDelay) h rfl (decide_eq_true ⟨hlow, hhigh⟩) rfl
  · exact State.exec_setParameter (p := .waitLimit) h rfl (decide_eq_true hv) rfl
  · exact State.exec_setParameter (p := .reannounce) h rfl (decide_eq_true hv) rfl
  · have hexec := State.exec_setParameter (p := .clearWhileHeld) h rfl (decide_toNat_one_le on) rfl
    simp only [Params.put, flag_beq_one] at hexec
    exact hexec
  · subst hsame
    exact State.exec_setParameter_enable h rfl (State.applyEnable_same _ _) rfl
  · subst hon
    exact State.exec_setParameter_enable (u := s.besides s.lower.enterTraining s.records _) h hbefore
      (State.applyEnable_on _) rfl
  · subst hoff
    exact State.exec_setParameter_enable (u := s.besides s.lower.enterDown s.records _) h hbefore
      (State.applyEnable_off hdown) rfl
  · subst hoff
    obtain ⟨u, hloss, hset⟩ := State.exec_setParameter_off_up h hbefore hup
    exact ⟨_, u, hloss, hset, rfl⟩
  · cases p <;> simp only [Param.num, Param.inRange, decide_eq_false_iff_not] at hp ⊢ <;> omega

end Sys2Proof.Machine

/-! ## The queue of commands under every command

Only the taking of a command changes the queue of commands. Each shared operation leaves the queue as it was (the simp lemmas
`State.pending_…`), each operation's body does (`Op.pending_body`), and so does every command (`State.pending_exec`). -/

namespace Sys2Proof.Machine

/-! ### Shared operations -/

@[simp] theorem State.pending_announceIfDue (s : State) : s.announceIfDue.pending = s.pending := by
  obtain ⟨_, h⟩ := s.announceIfDue_changes
  rw [h]

@[simp] theorem State.pending_raiseFlag (s : State) (n : Nat) : (s.raiseFlag n).pending = s.pending := by
  obtain ⟨_, h⟩ := s.raiseFlag_changes n
  rw [h]

@[simp] theorem State.pending_settle (s : State) : s.settle.pending = s.pending := by
  obtain ⟨_, _, _, _, _, h⟩ := s.settle_changes
  rw [h]

@[simp] theorem State.pending_refuseHead (s : State) (r : Refused) : (s.refuseHead r).pending = s.pending := by
  obtain ⟨_, _, _, _, h⟩ := s.refuseHead_changes r
  rw [h]

@[simp] theorem State.pending_passHead (s : State) (p : Down) : (s.passHead p).pending = s.pending := by
  obtain ⟨_, _, _, _, _, h⟩ := s.passHead_changes p
  rw [h]

@[simp] theorem State.pending_loseLower (s : State) (next : Port → Port) :
    (s.loseLower next).pending = s.pending := by
  obtain ⟨_, _, _, _, _, _, _, _, h⟩ := s.loseLower_changes next
  rw [h]

@[simp] theorem State.pending_answer (s : State) (i : Fin 16) (code : Code) (data : Option (List Word)) :
    (s.answer i code data).pending = s.pending := by
  obtain ⟨_, _, _, h⟩ := s.answer_changes i code data
  rw [h]

@[simp] theorem State.pending_answerAll (s : State) (is : List (Fin 16)) (code : Code) :
    (s.answerAll is code).pending = s.pending := by
  obtain ⟨_, _, _, h⟩ := s.answerAll_changes is code
  rw [h]

@[simp] theorem State.pending_freeRecord (s : State) (i : Fin 16) : (s.freeRecord i).pending = s.pending := by
  obtain ⟨_, _, h⟩ := s.freeRecord_changes i
  rw [h]

@[simp] theorem State.pending_finishMgmt (s : State) (i : Fin 3) (code : Code) (result : List Word) :
    (s.finishMgmt i code result).pending = s.pending := by
  obtain ⟨_, _, _, h⟩ := s.finishMgmt_changes i code result
  rw [h]

@[simp] theorem State.pending_endIssued (s : State) (k : Fin 4) (i : Fin 16) (r : TransRecord) (code : Code)
    (data : Option (List Word)) : (s.endIssued k i r code data).pending = s.pending := by
  obtain ⟨_, _, _, h⟩ := s.endIssued_changes k i r code data
  rw [h]

@[simp] theorem State.pending_completeDisable (s : State) (k : Fin 4) : (s.completeDisable k).pending = s.pending := by
  obtain ⟨_, _, h⟩ := s.completeDisable_changes k
  rw [h]

@[simp] theorem State.pending_takeStrobe (s : State) (k : Fin 4) (a : BitVec 2) :
    (s.takeStrobe k a).pending = s.pending := by
  obtain ⟨_, _, _, h⟩ := s.takeStrobe_changes k a
  rw [h]

@[simp] theorem State.pending_releaseData (s : State) (k : Fin 4) : (s.releaseData k).pending = s.pending := by
  obtain ⟨_, _, _, h⟩ := s.releaseData_changes k
  rw [h]

@[simp] theorem State.pending_takeDones (s : State) (k : Fin 4) (l : List Transfer) :
    (l.foldl (fun c x => c.takeDone k x) s).pending = s.pending := by
  obtain ⟨_, _, _, h⟩ := State.takeDones_changes k l s
  rw [h]

/-! ### The trunk link and the classifier -/

@[simp] theorem State.pending_loseLink (s : State) (p : PortId) : (s.loseLink p).pending = s.pending := by
  cases p with
  | upper =>
    have hlost : s.loseLink .upper = if s.mgmt.resetPending then s.endSession.branchReset else s.endSession := rfl
    rw [hlost]
    split <;> rfl
  | lower => exact s.pending_loseLower _

@[simp] theorem State.pending_completeTraining (s : State) (p : PortId) :
    (s.completeTraining p).pending = s.pending := by
  unfold State.completeTraining
  split
  · cases p <;> simp
  · rfl

@[simp] theorem State.pending_failCheck (s : State) (p : PortId) : (s.failCheck p).pending = s.pending := by
  unfold State.failCheck
  dsimp only
  split <;> simp

@[simp] theorem State.pending_relay (s : State) (u : Up) : (s.relay u).pending = s.pending := by
  unfold State.relay
  dsimp only
  split
  · simp
  · split <;> simp

@[simp] theorem State.pending_receiveUpper (s : State) (chars : List PacketChar) :
    (s.receiveUpper chars).pending = s.pending := by
  unfold State.receiveUpper
  split <;> simp

@[simp] theorem State.pending_receiveLower (s : State) (chars : List PacketChar) :
    (s.receiveLower chars).pending = s.pending := by
  unfold State.receiveLower
  split <;> simp

@[simp] theorem State.pending_receivePacket (s : State) (p : PortId) (chars : List PacketChar) :
    (s.receivePacket p chars).pending = s.pending := by
  unfold State.receivePacket
  split
  · rfl
  dsimp only
  split
  · simp
  · cases p <;> simp

@[simp] theorem State.pending_receiveHello (s : State) (p : PortId) (capacity : Nat) (ready : Bool) :
    (s.receiveHello p capacity ready).pending = s.pending := by
  unfold State.receiveHello
  split
  · rfl
  · split <;> simp
  · split <;> simp

@[simp] theorem State.pending_claimHead (s : State) (b : BankId) (e : Fin 32) (w : Window) (q : Request) :
    (s.claimHead b e w q).pending = s.pending := by
  unfold State.claimHead
  split
  · simp
  · split <;> rfl

@[simp] theorem State.pending_classifyRequest (s : State) (q : Request) :
    (s.classifyRequest q).pending = s.pending := by
  unfold State.classifyRequest
  split
  · simp
  · split
    · split <;> simp
    · split
      · rfl
      · dsimp only
        split <;> simp

@[simp] theorem State.pending_classifyMgmt (s : State) (m : MgmtPacket) : (s.classifyMgmt m).pending = s.pending := by
  unfold State.classifyMgmt
  split
  · simp
  split
  · simp
  split
  · simp
  · rfl

@[simp] theorem State.pending_classify (s : State) : s.classify.pending = s.pending := by
  unfold State.classify
  split
  · rfl
  · split <;> simp

@[simp] theorem State.pending_sendMgmtResponse (s : State) : s.sendMgmtResponse.pending = s.pending := by
  unfold State.sendMgmtResponse
  split
  · rfl
  split
  · rfl
  split
  · rfl
  dsimp only
  split <;> rfl

@[simp] theorem State.pending_sendLocalResponse (s : State) : s.sendLocalResponse.pending = s.pending := by
  unfold State.sendLocalResponse
  split
  · rfl
  split
  · rfl
  · exact State.pending_freeRecord _ _

@[simp] theorem State.pending_sendRefusal (s : State) : s.sendRefusal.pending = s.pending := by
  unfold State.sendRefusal
  split
  · rfl
  · exact State.pending_settle _

@[simp] theorem State.pending_sendRelay (s : State) : s.sendRelay.pending = s.pending := by
  unfold State.sendRelay
  split <;> rfl

@[simp] theorem State.pending_arbitrate (s : State) : s.arbitrate.pending = s.pending := by
  unfold State.arbitrate
  split
  · rfl
  · split <;> simp

/-! ### The tap ports -/

@[simp] theorem State.pending_examine (s : State) (k : Fin 4) : (s.examine k).pending = s.pending := by
  unfold State.examine
  split
  · rfl
  split
  · rfl
  split
  · exact State.pending_raiseFlag _ _
  · rfl

@[simp] theorem State.pending_riseOfAck (s : State) (k : Fin 4) (a : BitVec 2) :
    (s.riseOfAck k a).pending = s.pending := by
  unfold State.riseOfAck
  split <;> simp

@[simp] theorem State.pending_takeByte (s : State) (k : Fin 4) (b : Byte) : (s.takeByte k b).pending = s.pending := by
  unfold State.takeByte
  dsimp only
  split <;> simp

@[simp] theorem State.pending_faultTap (s : State) (k : Fin 4) : (s.faultTap k).pending = s.pending := by
  unfold State.faultTap
  split <;> simp

@[simp] theorem State.pending_timeOut (s : State) (k : Fin 4) : (s.timeOut k).pending = s.pending := by
  unfold State.timeOut
  split
  · rfl
  split
  · rfl
  · simp [State.closeExchange]

@[simp] theorem State.pending_reissue (s : State) (k : Fin 4) : (s.reissue k).pending = s.pending := by
  unfold State.reissue
  split
  · rfl
  · split <;> rfl

@[simp] theorem State.pending_sampleLine (s : State) (k : Fin 4) (line : LineId) (level : Bool) :
    (s.sampleLine k line level).pending = s.pending := by
  unfold State.sampleLine
  split
  · rfl
  dsimp only
  split <;> simp

@[simp] theorem State.pending_completeVerify (s : State) (i : Fin 3) (b : BankId) :
    (s.completeVerify i b).pending = s.pending := by
  unfold State.completeVerify
  split <;> simp

/-! ### Management operations -/

@[simp] theorem State.pending_clearGroup (s : State) (g : Group) : (s.clearGroup g).pending = s.pending := by
  cases g with
  | port p => exact s.pending_modPort p _
  | tap k => rfl
  | branch => rfl

@[simp] theorem State.pending_applyEnable (s : State) (before after : Bool) :
    (s.applyEnable before after).pending = s.pending := by
  unfold State.applyEnable
  split
  · rfl
  split
  · rfl
  split
  · exact s.pending_loseLower _
  · rfl

theorem readCountersBody_pending (s : State) (ws : List Word) :
    ((readCountersBody s ws).state s).pending = s.pending := by
  unfold readCountersBody
  split
  · split
    · dsimp only [Begun.state_done]
      split <;> simp
    · rfl
  · rfl

theorem tapDisableBody_pending (s : State) (ws : List Word) :
    ((tapDisableBody s ws).state s).pending = s.pending := by
  unfold tapDisableBody
  split
  · split
    · rfl
    · split <;> simp [State.disableAtOnce]
  · rfl

theorem discardHoldBody_pending (s : State) (ws : List Word) :
    ((discardHoldBody s ws).state s).pending = s.pending := by
  unfold discardHoldBody
  split
  · split
    · rfl
    · split <;> simp
  · rfl

theorem readAttentionBody_pending (s : State) (ws : List Word) :
    ((readAttentionBody s ws).state s).pending = s.pending := by
  unfold readAttentionBody
  split
  · split
    · rfl
    · dsimp only [Begun.state_done]
      split <;> rfl
  · rfl

theorem setAttentionEnablesBody_pending (s : State) (ws : List Word) :
    ((setAttentionEnablesBody s ws).state s).pending = s.pending := by
  unfold setAttentionEnablesBody
  split
  · split <;> simp
  · rfl

theorem acknowledgeAttentionBody_pending (s : State) (ws : List Word) :
    ((acknowledgeAttentionBody s ws).state s).pending = s.pending := by
  unfold acknowledgeAttentionBody
  split
  · split
    · rfl
    · split <;> simp
  · rfl

theorem setParameterBody_pending (s : State) (ws : List Word) :
    ((setParameterBody s ws).state s).pending = s.pending := by
  unfold setParameterBody
  split
  · split
    · rfl
    · dsimp only
      split <;> simp
  · rfl

/-- No operation's body touches the queue of commands: it reads, edits what it names, or ends in the operations above. -/
theorem Op.pending_body (op : Op) (s : State) (ws : List Word) : ((op.body s ws).state s).pending = s.pending := by
  cases op with
  | readIdentity | readBranchStatus => rfl
  | readRecord => exact congrArg _ (readRecordBody_reads s ws)
  | readEntry => exact congrArg _ (readEntryBody_reads s ws)
  | verifyBank => exact congrArg _ (verifyBankBody_reads s ws)
  | readTapStatus => exact congrArg _ (readTapStatusBody_reads s ws)
  | readWatch => exact congrArg _ (readWatchBody_reads s ws)
  | readHeldRequest => exact congrArg _ (readHeldRequestBody_reads s ws)
  | readParameter => exact congrArg _ (readParameterBody_reads s ws)
  | readCounters => exact readCountersBody_pending s ws
  | tapDisable => exact tapDisableBody_pending s ws
  | discardHold => exact discardHoldBody_pending s ws
  | readAttention => exact readAttentionBody_pending s ws
  | setAttentionEnables => exact setAttentionEnablesBody_pending s ws
  | acknowledgeAttention => exact acknowledgeAttentionBody_pending s ws
  | setParameter => exact setParameterBody_pending s ws
  | writeEntry | clearBank | setMissAction | openBank | selectBank | clearHitCounts | tapEnable | tapRecover
  | setTapLines | setWatch | disarmWatch | releaseHold | clearAttention | branchReset =>
    delta Op.body writeEntryBody clearBankBody setMissActionBody openBankBody selectBankBody clearHitCountsBody
      tapEnableBody tapRecoverBody setTapLinesBody setWatchBody disarmWatchBody releaseHoldBody clearAttentionBody
      branchResetBody
    dsimp only
    repeat' split
    all_goals rfl

theorem State.pending_begin (s : State) (op : Op) : (s.begin op op.body).pending = s.pending := by
  obtain ⟨u, v, rs, rs', rfl, hv, h⟩ := s.begin_outcome op op.body
  rw [h]
  obtain rfl | ⟨ws, rfl⟩ := hv
  · rfl
  · exact op.pending_body _ ws

/-! ### Every command -/

theorem State.next_taken {s u : State} (h : u.pending = s.pending) :
    ∃ t, s.taken u = .next t ∧ t.pending = s.pending := by
  refine ⟨_, rfl, ?_⟩
  split
  · rfl
  · exact h

theorem State.pending_exec (c : Instr) (s : State) : ∃ t, exec c s = .next t ∧ t.pending = s.pending := by
  by_cases hop : c ∈ Op.catalogue.map Op.command
  · obtain ⟨op, -, rfl⟩ := List.mem_map.1 hop
    rw [s.exec_command]
    exact State.next_taken (s.pending_begin op)
  cases c with
  | powerUpReset => exact ⟨_, rfl, rfl⟩
  | resetAsserted => exact ⟨_, rfl, rfl⟩
  | packetReceived port chars => exact State.next_taken (s.pending_receivePacket port chars)
  | helloReceived port payload =>
    refine State.next_taken ?_
    split <;> simp
  | creditReceived port payload =>
    refine State.next_taken ?_
    split <;> simp
  | idleReceived port payload =>
    refine State.next_taken ?_
    split <;> simp
  | damagedSymbolReceived port => exact State.next_taken (s.pending_modPort port _)
  | helloPeriod port =>
    refine State.next_taken ?_
    split <;> simp
  | trainingRestart port =>
    refine State.next_taken ?_
    split <;> simp
  | silenceTimeout port =>
    refine State.next_taken ?_
    split <;> simp
  | sendCredit port =>
    refine State.next_taken ?_
    split <;> simp
  | classifyPacket => exact State.next_taken s.pending_classify
  | lowerSend =>
    refine State.next_taken ?_
    split
    · rfl
    · split <;> simp
  | arbiterSend =>
    refine State.next_taken ?_
    split <;> simp
  | examineHead tap =>
    refine State.next_taken ?_
    split <;> simp
  | tapAcknowledge tap input =>
    refine State.next_taken ?_
    cases input <;> simp
  | ackTimeout tap =>
    refine State.next_taken ?_
    split <;> simp
  | retryTimerExpiry tap =>
    refine State.next_taken ?_
    split <;> simp
  | waitTimerExpiry index =>
    refine State.next_taken ?_
    split
    · rfl
    · split <;> simp [State.expireWait]
  | attentionLineAsserted tap line => exact State.next_taken (s.pending_sampleLine tap line true)
  | attentionLineReleased tap line => exact State.next_taken (s.pending_sampleLine tap line false)
  | reAnnounce =>
    refine State.next_taken ?_
    split
    · split <;> rfl
    · rfl
  | verifyBankComplete =>
    refine State.next_taken ?_
    split <;> simp
  | unknownOperation =>
    refine State.next_taken ?_
    split
    · split
      · rfl
      · exact State.pending_finishMgmt _ _ _ _
    · rfl
  | _ => exact absurd (by decide) hop

/-- Settles O6: an operation's command is no other than the beginning of that operation (`State.exec_command`). -/
theorem everyCommandHasANextState : Obligations.EveryCommandHasANextState :=
  ⟨State.pending_exec, fun _ _ => State.exec_command_elsewhere⟩

end Sys2Proof.Machine

/-! ## Packets received -/

namespace Sys2Proof.Machine

/-! ### The round trip of a packet (R151, R163, R187, R188) -/

/-- A downward packet in range has a header of a downward kind, and check 4 finds it again in its words. -/
theorem Down.words_parse {p : Down} (h : p.inRange) :
    ∃ header rest, p.words = header :: rest ∧ isUpKind (header.extractLsb' 28 4) = false ∧
      isDownKind (header.extractLsb' 28 4) = true ∧ parseDown header rest = some p := by
  cases p with
  | request q =>
    obtain ⟨kind, tag, address, length, data, reserved⟩ := q
    obtain ⟨hlow, (hhigh : length ≤ 16), hdata⟩ := h
    obtain ⟨hk, htag, hlength, hreserved⟩ := requestHeader kind.nibble tag (BitVec.ofNat 5 length) reserved
    have hcount : (BitVec.ofNat 5 length).toNat = length := by rw [BitVec.toNat_ofNat]; omega
    refine ⟨_, _, rfl, ?_⟩
    rw [hk]
    cases kind with
    | read =>
      obtain rfl : data = [] := List.length_eq_zero_iff.1 hdata
      refine ⟨rfl, rfl, (parseDown_read hk).trans ?_⟩
      simp only [parseRead, htag, hlength, hreserved, hcount, if_pos (And.intro hlow hhigh)]
    | write =>
      have hdata : data.length = length := hdata
      refine ⟨rfl, rfl, (parseDown_write hk).trans ?_⟩
      simp only [parseWrite, htag, hlength, hreserved, hcount, if_pos (And.intro hlow (And.intro hhigh hdata))]
  | mgmt m =>
    obtain ⟨hop, tag, operation, operands, reserved⟩ := m
    have hsize : operands.length ≤ 8 := h
    obtain ⟨hk, htag, hhop, hn, hoperation, hreserved⟩ :=
      mgmtHeader 0x3#4 tag hop (BitVec.ofNat 4 operands.length) operation reserved
    have hcount : (BitVec.ofNat 4 operands.length).toNat = operands.length := by rw [BitVec.toNat_ofNat]; omega
    refine ⟨_, _, rfl, ?_⟩
    rw [hk]
    refine ⟨rfl, rfl, (parseDown_mgmt hk).trans ?_⟩
    simp only [parseMgmt, htag, hhop, hn, hoperation, hreserved, hcount, hsize, true_and, if_true]

/-- An upward packet in range has a header of an upward kind, and check 4 finds it again in its words. -/
theorem Up.words_parse {u : Up} (h : u.inRange) :
    ∃ header rest, u.words = header :: rest ∧ isDownKind (header.extractLsb' 28 4) = false ∧
      isUpKind (header.extractLsb' 28 4) = true ∧ parseUp header rest = some u := by
  cases u with
  | readDone tag code data reserved =>
    have hsize : if code = .ok then 1 ≤ data.length ∧ data.length ≤ 16 else data.length = 0 := by
      simpa only [Up.inRange, List.length_eq_zero_iff] using h
    have hcount : (BitVec.ofNat 5 data.length).toNat = data.length := by
      have hroom : data.length ≤ 16 := by split at hsize <;> omega
      rw [BitVec.toNat_ofNat]
      omega
    obtain ⟨hk, htag, hcode, hn, hreserved⟩ :=
      readDoneHeader 0x9#4 tag code.value (BitVec.ofNat 5 data.length) reserved
    refine ⟨_, _, rfl, ?_⟩
    rw [hk]
    refine ⟨rfl, rfl, (parseUp_readDone hk).trans ?_⟩
    simp only [parseReadDone, htag, hcode, hn, hreserved, hcount, Code.ofValue_value, true_and, if_pos hsize]
  | writeDone tag code reserved =>
    obtain ⟨hk, htag, hcode, hreserved⟩ := writeDoneHeader 0xA#4 tag code.value reserved
    refine ⟨_, _, rfl, ?_⟩
    rw [hk]
    refine ⟨rfl, rfl, (parseUp_writeDone hk).trans ?_⟩
    simp only [parseWriteDone, htag, hcode, hreserved, Code.ofValue_value, if_pos List.length_nil]
  | mgmtDone tag depth code result reserved =>
    have hsize : result.length ≤ 8 := h
    have hcount : (BitVec.ofNat 4 result.length).toNat = result.length := by rw [BitVec.toNat_ofNat]; omega
    obtain ⟨hk, htag, hdepth, hcode, hn, hreserved⟩ :=
      mgmtDoneHeader 0xB#4 tag depth code.value (BitVec.ofNat 4 result.length) reserved
    refine ⟨_, _, rfl, ?_⟩
    rw [hk]
    refine ⟨rfl, rfl, (parseUp_mgmtDone hk).trans ?_⟩
    simp only [parseMgmtDone, htag, hdepth, hcode, hn, hreserved, hcount, Code.ofValue_value, hsize, true_and,
      if_true]
  | attn depth sequence setList newList reserved =>
    have hnew : newList.extractLsb' 0 17 ≠ 0 := h
    obtain ⟨hk, hdepth, hsequence, hreserved⟩ := attnHeader 0xC#4 depth sequence reserved
    refine ⟨_, _, rfl, ?_⟩
    rw [hk]
    refine ⟨rfl, rfl, (parseUp_attn hk).trans ?_⟩
    simp only [parseAttn, hdepth, hsequence, hreserved, if_pos hnew]

/-- Settles O10: a packet arrives in its own words and check sequence, so its receipt rests on its kind and on check 4
alone (`receipt_arrival`), and check 4 finds the packet in its words. -/
theorem packetRoundTrip : Obligations.PacketRoundTrip := by
  refine ⟨fun p h => ?_, fun u h => ?_⟩
  · obtain ⟨header, rest, hwords, hwrong, hright, hparse⟩ := Down.words_parse h
    rw [hwords]
    exact receipt_arrival isDownKind isUpKind parseDown header rest p hwrong hright hparse
  · obtain ⟨header, rest, hwords, hwrong, hright, hparse⟩ := Up.words_parse h
    rw [hwords]
    exact receipt_arrival isUpKind isDownKind parseUp header rest u hwrong hright hparse

/-! ### A packet at a port (R161, R165, R170, R172, R179) -/

/-- A packet at a port that is not UP is discarded, uncounted. -/
theorem State.exec_packetReceived_not_up {s : State} {p : PortId} (h : (s.port p).state ≠ .up)
    (chars : List PacketChar) : exec (.packetReceived p chars) s = .next s := by
  have hexec : exec (.packetReceived p chars) s = s.taken (s.receivePacket p chars) := rfl
  rw [hexec, State.receivePacket, if_pos h, State.taken_self]

/-- Anything received restarts the silence timer of a port in UP. -/
theorem Port.heard_of_up {x : Port} (h : x.state = .up) : x.heard = { x with silence := some 64 } := if_pos h

/-- The checks of a packet that has a slot in the receive buffer of a port. -/
def State.checkAt (s : State) (chars : List PacketChar) : PortId → State
  | .upper => s.receiveUpper chars
  | .lower => s.receiveLower chars

/-- A packet at a port in UP restarts its silence timer, and is then an overrun or checked. -/
theorem State.exec_packetReceived_up {s : State} {p : PortId} (hlow : s.resetLow = false)
    (hup : (s.port p).state = .up) (chars : List PacketChar) :
    exec (.packetReceived p chars) s =
      .next (if 8 ≤ s.rxLength p then (s.setPort p { s.port p with silence := some 64 }).modPort p Port.countOverrun
        else (s.setPort p { s.port p with silence := some 64 }).checkAt chars p) := by
  have hexec : exec (.packetReceived p chars) s = s.taken (s.receivePacket p chars) := rfl
  rw [hexec, State.taken_of_released hlow, State.receivePacket, if_neg (not_not_intro hup), State.modPort,
    Port.heard_of_up hup]
  cases p <;> rfl

theorem State.exec_packetReceived_overrun {s : State} {p : PortId} (hlow : s.resetLow = false)
    (hup : (s.port p).state = .up) (hfull : 8 ≤ s.rxLength p) (chars : List PacketChar) :
    exec (.packetReceived p chars) s =
      .next ((s.setPort p { s.port p with silence := some 64 }).modPort p Port.countOverrun) := by
  rw [State.exec_packetReceived_up hlow hup, if_pos hfull]

theorem State.exec_packetReceived_checked {s : State} {p : PortId} (hlow : s.resetLow = false)
    (hup : (s.port p).state = .up) (hroom : s.rxLength p < 8) (chars : List PacketChar) :
    exec (.packetReceived p chars) s = .next ((s.setPort p { s.port p with silence := some 64 }).checkAt chars p) := by
  rw [State.exec_packetReceived_up hlow hup, if_neg (Nat.not_le.2 hroom)]

/-! ### A packet that is not kept (R161, R162, R175, R179) -/

theorem Port.failRun_countCheckFailure (x : Port) : x.countCheckFailure.failRun = x.failRun + 1 := by
  obtain ⟨o, d, h, _⟩ :=
    Port.owe_changes { x with
      failRun := x.failRun + 1, counters := { x.counters with checkFailures := bump x.counters.checkFailures } } 1
  exact congrArg Port.failRun h

/-- A check failure that is not the fourth in a row is counted and no more. -/
theorem State.failCheck_of_short_run {s : State} {p : PortId} (h : (s.port p).failRun < 3) :
    s.failCheck p = s.modPort p Port.countCheckFailure := by
  refine if_neg ?_
  rw [State.port_modPort_self, Port.failRun_countCheckFailure, failRunLimit]
  omega

/-- A packet that a port in UP does not keep: it is counted by the first check it fails, or as received, and its slot is
freed and owed; the credits then owed are the same in each case. -/
theorem Port.freed_slot_owes {x : Port} (h : x.state = .up) :
    ∃ o d, x.Owes o d ∧
      x.countMalformed = { x with
        owed := o, draws := d, counters := { x.counters with malformed := bump x.counters.malformed } } ∧
      x.countMisdirected = { x with
        owed := o, draws := d, counters := { x.counters with misdirected := bump x.counters.misdirected } } ∧
      x.countCheckFailure = { x with
        owed := o, draws := d, failRun := x.failRun + 1
        counters := { x.counters with checkFailures := bump x.counters.checkFailures } } ∧
      x.countReceived.owe 1 = { x.countReceived with owed := o, draws := d } := by
  obtain ⟨o, d, ho, howe⟩ := x.owe_one_owes
  exact ⟨o, d, ho, howe _ h rfl rfl, howe _ h rfl rfl, howe _ h rfl rfl, howe _ h rfl rfl⟩

/-! ### An upward packet that passes the checks (R155, R156) -/

theorem State.relay_of_upper_not_up {s : State} (h : s.upper.state ≠ .up) (u : Up) :
    s.relay u = s.modPort .lower fun x => x.countReceived.owe 1 :=
  if_pos h

theorem State.relay_of_depthFull {s : State} {u : Up} (h : s.upper.state = .up) (hdepth : u.depthFull = true) :
    s.relay u = { s.modPort .lower fun x => x.countReceived.owe 1 with
      mgmt := { s.mgmt with depthOverflows := bump s.mgmt.depthOverflows } } :=
  (if_neg (not_not_intro h)).trans (if_pos hdepth)

theorem State.relay_of_depth_left {s : State} {u : Up} (h : s.upper.state = .up) (hdepth : u.depthFull = false) :
    s.relay u = { s.modPort .lower Port.countReceived with lowerRx := s.lowerRx ++ [u] } :=
  (if_neg (not_not_intro h)).trans (if_neg (by simp [hdepth]))

/-! ### The two ports -/

/-- Settles O7: a packet with a slot meets the outcomes of `receiptUpper`, and a failing one frees its slot
(`Port.freed_slot_owes`). -/
theorem upperPacketIsKeptOrCounted : Obligations.UpperPacketIsKeptOrCounted := by
  intro s chars hlow
  refine ⟨fun h => State.exec_packetReceived_not_up (p := .upper) h chars,
    fun hup hfull => State.exec_packetReceived_overrun (p := .upper) hlow hup hfull chars, fun hup hroom => ?_⟩
  obtain ⟨o, d, ho, hmalformed, hmisdirected, hfailed, _⟩ :=
    Port.freed_slot_owes (x := { s.upper with silence := some 64 }) hup
  rw [State.exec_packetReceived_checked (p := .upper) hlow hup hroom, State.checkAt, State.receiveUpper]
  refine ⟨fun q h => ?kept, fun h => ⟨o, d, ho, ?malformed⟩, fun h => ⟨o, d, ho, ?misdirected⟩,
    fun h hrun => ⟨o, d, ho, ?checkFailure⟩⟩ <;> rw [h]
  case kept => rfl
  case malformed => exact congrArg (Host.Outcome.next ∘ s.setPort .upper) hmalformed
  case misdirected => exact congrArg (Host.Outcome.next ∘ s.setPort .upper) hmisdirected
  case checkFailure =>
    refine congrArg Host.Outcome.next ((State.failCheck_of_short_run ?_).trans (congrArg (s.setPort .upper) hfailed))
    exact hrun

/-- Settles O8: a packet with a slot meets the outcomes of `receiptLower`; a failing one frees its slot
(`Port.freed_slot_owes`), and so does one that passes and is not relayed. -/
theorem lowerPacketIsRelayedOrCounted : Obligations.LowerPacketIsRelayedOrCounted := by
  intro s chars hlow
  refine ⟨fun h => State.exec_packetReceived_not_up (p := .lower) h chars,
    fun hup hfull => State.exec_packetReceived_overrun (p := .lower) hlow hup hfull chars, fun hup hroom => ?_⟩
  obtain ⟨o, d, ho, hmalformed, hmisdirected, hfailed, hfreed⟩ :=
    Port.freed_slot_owes (x := { s.lower with silence := some 64 }) hup
  rw [State.exec_packetReceived_checked (p := .lower) hlow hup hroom, State.checkAt, State.receiveLower]
  refine ⟨fun u h hupper hdepth => ?relayed, fun u h hupper hdepth => ⟨o, d, ho, ?depthFull⟩,
    fun u h hupper => ⟨o, d, ho, ?upperNotUp⟩, fun h => ⟨o, d, ho, ?malformed⟩, fun h => ⟨o, d, ho, ?misdirected⟩,
    fun h hrun => ⟨o, d, ho, ?checkFailure⟩⟩ <;> rw [h]
  case relayed =>
    refine congrArg Host.Outcome.next (State.relay_of_depth_left ?_ hdepth)
    exact hupper
  case depthFull =>
    refine (congrArg Host.Outcome.next (State.relay_of_depthFull ?_ hdepth)).trans ?_
    · exact hupper
    · exact congrArg (fun x => Host.Outcome.next { s.setPort .lower x with
        mgmt := { s.mgmt with depthOverflows := bump s.mgmt.depthOverflows } }) hfreed
  case upperNotUp =>
    refine congrArg Host.Outcome.next ((State.relay_of_upper_not_up ?_ u).trans (congrArg (s.setPort .lower) hfreed))
    exact hupper
  case malformed => exact congrArg (Host.Outcome.next ∘ s.setPort .lower) hmalformed
  case misdirected => exact congrArg (Host.Outcome.next ∘ s.setPort .lower) hmisdirected
  case checkFailure =>
    refine congrArg Host.Outcome.next ((State.failCheck_of_short_run ?_).trans (congrArg (s.setPort .lower) hfailed))
    exact hrun

end Sys2Proof.Machine

/-! ## Symbols and link losses of a port that is UP -/

namespace Sys2Proof.Machine

/-! ### Damaged symbols (R170, R172) -/

/-- Every damaged symbol has one effect, whichever symbol it was. -/
theorem State.exec_damaged {s : State} {p : PortId} {c : Instr} {payload : Word} (hlow : s.resetLow = false)
    (hc : c = .damagedSymbolReceived p ∨ (c = .helloReceived p payload ∧ helloIntact payload = false)
      ∨ (c = .creditReceived p payload ∧ creditIntact payload = false)
      ∨ (c = .idleReceived p payload ∧ idleIntact payload = false)) :
    exec c s = .next (s.modPort p Port.damaged) := by
  have hexec : exec c s = s.taken (s.modPort p Port.damaged) := by
    obtain rfl | ⟨rfl, hbad⟩ | ⟨rfl, hbad⟩ | ⟨rfl, hbad⟩ := hc
    · rfl
    · exact congrArg s.taken (if_neg (by simp [hbad]))
    · exact congrArg s.taken (if_neg (by simp [hbad]))
    · exact congrArg s.taken (if_neg (by simp [hbad]))
  rw [hexec, State.taken_of_released hlow]

theorem Port.damaged_of_down {x : Port} (h : x.state = .down) : x.damaged = x := by
  simp only [Port.damaged, h]

theorem Port.damaged_of_training {x : Port} (h : x.state = .training) :
    x.damaged = { x with
      run := 0, counters := { x.counters with checkFailures := bump x.counters.checkFailures } } := by
  simp only [Port.damaged, h]

theorem Port.damaged_of_up {x : Port} (h : x.state = .up) :
    x.damaged = { x with
      silence := some 64, counters := { x.counters with checkFailures := bump x.counters.checkFailures } } := by
  simp only [Port.damaged, h, Port.heard_of_up h]

/-- A change of a port that leaves it as it is. -/
theorem State.modPort_of_eq {s : State} {p : PortId} {f : Port → Port} (h : f (s.port p) = s.port p) :
    s.modPort p f = s := by
  rw [State.modPort, h, State.setPort_port]

/-- Settles O12: every damaged symbol is `Port.damaged`, which is read off state by state. -/
theorem damagedSymbolIsCounted : Obligations.DamagedSymbolIsCounted := by
  intro s p c payload hlow hc counted
  rw [State.exec_damaged hlow hc]
  refine ⟨fun h => ?training, fun h => ?up, fun h => ?down⟩
  case training => rw [State.modPort, Port.damaged_of_training h]
  case up => rw [State.modPort, Port.damaged_of_up h]
  case down => rw [State.modPort_of_eq (Port.damaged_of_down h)]

/-! ### Undamaged symbols (R170, R174, R178, R179) -/

theorem State.exec_creditReceived {s : State} {payload : Word} (hlow : s.resetLow = false)
    (hintact : creditIntact payload = true) (p : PortId) :
    exec (.creditReceived p payload) s = .next (s.modPort p Port.receiveCredit) := by
  have hexec : exec (.creditReceived p payload) s = execCreditReceived p payload s := rfl
  rw [hexec, execCreditReceived, State.taken_of_released hlow, if_pos hintact]

theorem State.exec_idleReceived {s : State} {payload : Word} (hlow : s.resetLow = false)
    (hintact : idleIntact payload = true) (p : PortId) :
    exec (.idleReceived p payload) s = .next (s.modPort p Port.heard) := by
  have hexec : exec (.idleReceived p payload) s = execIdleReceived p payload s := rfl
  rw [hexec, execIdleReceived, State.taken_of_released hlow, if_pos hintact]

theorem State.exec_helloReceived {s : State} {payload : Word} (hlow : s.resetLow = false)
    (hintact : helloIntact payload = true) (p : PortId) :
    exec (.helloReceived p payload) s = .next (s.receiveHello p (helloCapacity payload) (helloReady payload)) := by
  have hexec : exec (.helloReceived p payload) s = execHelloReceived p payload s := rfl
  rw [hexec, execHelloReceived, State.taken_of_released hlow, if_pos hintact]

theorem State.exec_sendCredit {s : State} {p : PortId} (hlow : s.resetLow = false) (hup : (s.port p).state = .up)
    (howed : 0 < (s.port p).owed) : exec (.sendCredit p) s = .next (s.modPort p Port.sendCredit) := by
  have hexec : exec (.sendCredit p) s = execSendCredit p s := rfl
  rw [hexec, execSendCredit, State.taken_of_released hlow, if_pos ⟨hup, howed⟩]

theorem State.receiveHello_of_down {s : State} {p : PortId} (h : (s.port p).state = .down) (capacity : Nat)
    (ready : Bool) : s.receiveHello p capacity ready = s := by
  simp only [State.receiveHello, h]

theorem State.receiveHello_of_up {s : State} {p : PortId} (h : (s.port p).state = .up) (capacity : Nat)
    (ready : Bool) :
    s.receiveHello p capacity ready = if ready then s.modPort p Port.heard else s.loseLink p := by
  simp only [State.receiveHello, h]

theorem Port.heard_of_not_up {x : Port} (h : x.state ≠ .up) : x.heard = x := if_neg h

theorem Port.receiveCredit_of_not_up {x : Port} (h : x.state ≠ .up) : x.receiveCredit = x := if_neg h

theorem Port.receiveCredit_of_room {x : Port} (h : x.state = .up) (hroom : x.credit < x.capacity) :
    x.receiveCredit = { x with silence := some 64, credit := x.credit + 1 } := by
  rw [Port.receiveCredit, if_pos h, if_pos hroom, Port.heard_of_up h]

/-- A CREDIT at the partner's capacity is in excess. -/
theorem Port.receiveCredit_of_full {x : Port} (h : x.state = .up) (hfull : x.capacity ≤ x.credit) :
    x.receiveCredit = { x with
      silence := some 64, counters := { x.counters with excessCredits := bump x.counters.excessCredits } } := by
  rw [Port.receiveCredit, if_pos h, if_neg (Nat.not_lt.2 hfull), Port.heard_of_up h]

/-- Settles O13: each undamaged symbol changes its port alone, as the port's state says. -/
theorem symbolsOfALinkThatIsUp : Obligations.SymbolsOfALinkThatIsUp := by
  intro s p payload hlow
  refine ⟨fun hintact => ?credit, fun hintact => ?idle, fun hintact => ?hello, State.exec_sendCredit hlow⟩
  case credit =>
    rw [State.exec_creditReceived hlow hintact]
    refine ⟨fun hup hroom => ?_, fun hup hfull => ?_, fun hup => ?_⟩
    · rw [State.modPort, Port.receiveCredit_of_room hup hroom]
    · rw [State.modPort, Port.receiveCredit_of_full hup hfull]
    · rw [State.modPort_of_eq (Port.receiveCredit_of_not_up hup)]
  case idle =>
    rw [State.exec_idleReceived hlow hintact]
    refine ⟨fun hup => ?_, fun hup => ?_⟩
    · rw [State.modPort, Port.heard_of_up hup]
    · rw [State.modPort_of_eq (Port.heard_of_not_up hup)]
  case hello =>
    rw [State.exec_helloReceived hlow hintact]
    refine ⟨fun hup hready => ?_, fun hdown => ?_⟩
    · rw [State.receiveHello_of_up hup, if_pos hready, State.modPort, Port.heard_of_up hup]
    · rw [State.receiveHello_of_down hdown]

/-! ### The causes of a link loss (R174, R175) -/

/-- A link loss looks at no more of its port than what the port keeps when it enters TRAINING. -/
theorem State.loseLink_setPort (s : State) (p : PortId) {x y : Port}
    (h : x.countRetrain.enterTraining = y.countRetrain.enterTraining) :
    (s.setPort p x).loseLink p = (s.setPort p y).loseLink p := by
  cases p with
  | upper =>
    have hended : (s.setPort .upper x).endSession = (s.setPort .upper y).endSession :=
      congrArg (fun z => { s.endSession with upper := z }) h
    have hlost (z : Port) : (s.setPort .upper z).loseLink .upper =
        if s.mgmt.resetPending then (s.setPort .upper z).endSession.branchReset
        else (s.setPort .upper z).endSession := rfl
    rw [hlost, hlost, hended]
  | lower =>
    have hlost : (s.setPort .lower x).lowerLost Port.enterTraining =
        (s.setPort .lower y).lowerLost Port.enterTraining :=
      congrArg (fun z => { s.lowerLost Port.enterTraining with lower := z }) h
    have hlose (z : Port) : (s.setPort .lower z).loseLink .lower =
        (s.setPort .lower z).loseLower Port.enterTraining := rfl
    rw [hlose, hlose, State.loseLower_eq, State.loseLower_eq, hlost]

/-- A link loss is the expiry of a silence timer, at a port that differs only in what the entry into TRAINING sets. -/
theorem State.loseLink_eq_silenceTimeout {s : State} {p : PortId} {x y : Port} (hlow : s.resetLow = false)
    (hup : y.state = .up) (hsilence : y.silence = some 0)
    (h : x.countRetrain.enterTraining = y.countRetrain.enterTraining) :
    .next ((s.setPort p x).loseLink p) = exec (.silenceTimeout p) (s.setPort p y) := by
  rw [State.exec_silenceTimeout (by simp [hlow]) (by simp [hup]) (by simp [hsilence]), s.loseLink_setPort p h]

theorem State.modPort_setPort (s : State) (p : PortId) (x : Port) (f : Port → Port) :
    (s.setPort p x).modPort p f = s.setPort p (f x) := by cases p <;> rfl

/-- The fourth check failure in a row is counted, and the link is lost. -/
theorem State.failCheck_of_long_run {s : State} {p : PortId} (h : (s.port p).failRun = 3) :
    s.failCheck p = (s.modPort p Port.countCheckFailure).loseLink p := by
  refine if_pos ?_
  rw [State.port_modPort_self, Port.failRun_countCheckFailure, h, failRunLimit]

/-- Settles O14: each cause is a loss of the port's link, and the ports it is lost from differ only in what the entry
into TRAINING sets (`State.loseLink_eq_silenceTimeout`). -/
theorem linkLossIsOneEffect : Obligations.LinkLossIsOneEffect := by
  intro s p hlow hup
  refine ⟨fun payload hintact hready => ?hello, fun chars hroom hrun hfailed => ?checkFailure⟩
  case hello =>
    have hself : s.loseLink p = (s.setPort p (s.port p)).loseLink p := by rw [State.setPort_port]
    rw [State.exec_helloReceived hlow hintact, State.receiveHello_of_up hup, if_neg (by simp [hready]), hself]
    exact State.loseLink_eq_silenceTimeout hlow hup rfl rfl
  case checkFailure =>
    obtain ⟨o, d, ho, -, -, hcounted, -⟩ := Port.freed_slot_owes (x := { s.port p with silence := some 64 }) hup
    have hcheck (t : State) : t.checkAt chars p = t.failCheck p := by
      cases p with
      | upper => rw [State.checkAt, State.receiveUpper, hfailed]
      | lower => rw [State.checkAt, State.receiveLower, hfailed]
    refine ⟨o, d, ho, ?_⟩
    rw [State.exec_packetReceived_checked hlow hup hroom, hcheck,
      State.failCheck_of_long_run (by rw [State.port_setPort_self]; exact hrun), State.modPort_setPort, hcounted]
    exact State.loseLink_eq_silenceTimeout hlow hup rfl rfl

end Sys2Proof.Machine

/-! ## The ports under every command

The invariant looks at five fields of each port, at how many packets its buffer holds, and at the lower port's enable
(`State.links`). An event that leaves these leaves the invariant (`State.PortsAgree.congr`); the others change one port
in a way that keeps it (`Port.Keeps`), bring a port UP, lose a link, free a slot, or turn the enable on or off. -/

namespace Sys2Proof.Machine

/-! ### What the invariant looks at -/

/-- A port that holds `n` packets keeps its credits in range, and holds, owes and waits for nothing unless it is UP
(R169, R171, R175, R178). -/
structure Port.Agrees (x : Port) (n : Nat) : Prop where
  credit : x.credit ≤ x.capacity
  capacity_pos : 1 ≤ x.capacity
  capacity_le : x.capacity ≤ 15
  owed : x.owed ≤ 8
  idle : x.state ≠ .up → x.credit = 0 ∧ x.owed = 0 ∧ x.silence = none ∧ n = 0

/-- The fields of a port that the invariant speaks of. -/
def Port.standing (x : Port) : LinkState × Nat × Nat × Nat × Timer :=
  (x.state, x.credit, x.capacity, x.owed, x.silence)

/-- What the invariant looks at of the part. -/
def State.links (s : State) :
    (LinkState × Nat × Nat × Nat × Timer) × (LinkState × Nat × Nat × Nat × Timer) × Nat × Nat × Bool :=
  (s.upper.standing, s.lower.standing, s.upperRx.length, s.lowerRx.length, s.mgmt.params.lowerEnable)

theorem Port.Agrees.congr {x y : Port} {n : Nat} (hx : x.Agrees n) (h : y.standing = x.standing) : y.Agrees n := by
  simp only [Port.standing, Prod.mk.injEq] at h
  obtain ⟨hstate, hcredit, hcapacity, howed, hsilence⟩ := h
  obtain ⟨h1, h2, h3, h4, h5⟩ := hx
  constructor <;> simp only [hstate, hcredit, hcapacity, howed, hsilence] <;> assumption

theorem State.portsAgree_iff {s : State} : s.PortsAgree ↔
    s.upper.state ≠ .down ∧ (s.lower.state = .down ↔ s.mgmt.params.lowerEnable = false)
      ∧ s.upper.Agrees s.upperRx.length ∧ s.lower.Agrees s.lowerRx.length := by
  constructor
  · rintro ⟨hup, henable, hports⟩
    obtain ⟨hucredit, hupos, hule, huowed, huidle⟩ := hports .upper
    obtain ⟨hlcredit, hlpos, hlle, hlowed, hlidle⟩ := hports .lower
    exact ⟨hup, henable, ⟨hucredit, hupos, hule, huowed, huidle⟩, ⟨hlcredit, hlpos, hlle, hlowed, hlidle⟩⟩
  · rintro ⟨hup, henable, hupper, hlower⟩
    refine ⟨hup, henable, fun p => ?_⟩
    cases p with
    | upper => exact ⟨hupper.credit, hupper.capacity_pos, hupper.capacity_le, hupper.owed, hupper.idle⟩
    | lower => exact ⟨hlower.credit, hlower.capacity_pos, hlower.capacity_le, hlower.owed, hlower.idle⟩

theorem State.PortsAgree.congr {s t : State} (hs : s.PortsAgree) (h : t.links = s.links) : t.PortsAgree := by
  simp only [State.links, Prod.mk.injEq] at h
  obtain ⟨hupper, hlower, hupperRx, hlowerRx, hparam⟩ := h
  have hustate : t.upper.state = s.upper.state := congrArg Prod.fst hupper
  have hlstate : t.lower.state = s.lower.state := congrArg Prod.fst hlower
  obtain ⟨hup, henable, hu, hl⟩ := State.portsAgree_iff.1 hs
  refine State.portsAgree_iff.2 ⟨?_, ?_, ?_, ?_⟩
  · rwa [hustate]
  · rwa [hlstate, hparam]
  · rw [hupperRx]
    exact hu.congr hupper
  · rw [hlowerRx]
    exact hl.congr hlower

/-- Each port of a part whose ports agree, by its name. -/
theorem State.PortsAgree.port {s : State} (hs : s.PortsAgree) (p : PortId) : (s.port p).Agrees (s.rxLength p) := by
  obtain ⟨-, -, hu, hl⟩ := State.portsAgree_iff.1 hs
  cases p with
  | upper => exact hu
  | lower => exact hl

/-- A port given new values: it agrees with its buffer, and it is DOWN if it was. -/
theorem State.portsAgree_setPort {s : State} (hs : s.PortsAgree) {p : PortId} {x : Port}
    (hdown : x.state = .down ↔ (s.port p).state = .down) (hx : x.Agrees (s.rxLength p)) :
    (s.setPort p x).PortsAgree := by
  obtain ⟨hup, henable, hu, hl⟩ := State.portsAgree_iff.1 hs
  cases p with
  | upper => exact State.portsAgree_iff.2 ⟨fun h => hup (hdown.1 h), henable, hx, hl⟩
  | lower => exact State.portsAgree_iff.2 ⟨hup, hdown.trans henable, hu, hx⟩

/-! ### What keeps a port in agreement -/

/-- A change of a port that leaves its state, and leaves it in agreement with its buffer. -/
structure Port.Keeps (f : Port → Port) : Prop where
  state : ∀ x, (f x).state = x.state
  agrees : ∀ {x : Port} {n : Nat}, x.Agrees n → (f x).Agrees n

theorem Port.Keeps.of_standing {f : Port → Port} (h : ∀ x, (f x).standing = x.standing) : Port.Keeps f where
  state x := congrArg Prod.fst (h x)
  agrees {x _} hx := hx.congr (h x)

theorem State.portsAgree_modPort {s : State} (hs : s.PortsAgree) {f : Port → Port} (hf : Port.Keeps f) (p : PortId) :
    (s.modPort p f).PortsAgree :=
  State.portsAgree_setPort hs (by rw [hf.state]) (hf.agrees (hs.port p))

theorem Port.keeps_heard : Port.Keeps Port.heard where
  state := Port.state_heard
  agrees {x n} hx := by
    by_cases h : x.state = .up
    · rw [Port.heard_of_up h]
      exact { hx with idle := fun hup => absurd h hup }
    · rwa [Port.heard_of_not_up h]

theorem Port.keeps_damaged : Port.Keeps Port.damaged where
  state := Port.state_damaged
  agrees {x n} hx := by
    cases h : x.state with
    | down => rwa [Port.damaged_of_down h]
    | training =>
      rw [Port.damaged_of_training h]
      exact hx.congr rfl
    | up =>
      rw [Port.damaged_of_up h]
      exact { hx with idle := fun hup => absurd h hup }

theorem Port.keeps_receiveCredit : Port.Keeps Port.receiveCredit where
  state := Port.state_receiveCredit
  agrees {x n} hx := by
    by_cases h : x.state = .up
    · by_cases hroom : x.credit < x.capacity
      · rw [Port.receiveCredit_of_room h hroom]
        exact { hx with credit := hroom, idle := fun hup => absurd h hup }
      · rw [Port.receiveCredit_of_full h (Nat.not_lt.1 hroom)]
        exact { hx with idle := fun hup => absurd h hup }
    · rwa [Port.receiveCredit_of_not_up h]

/-- Slots freed keep a port in agreement with a buffer that holds no more than before (R179). -/
theorem Port.Agrees.owe {x : Port} {n m : Nat} (hx : x.Agrees n) (hm : m ≤ n) (k : Nat) : (x.owe k).Agrees m := by
  by_cases h : x.state = .up
  · have howed := Port.owed_owe_le hx.owed k
    obtain ⟨o, d, he, -⟩ := x.owe_changes k
    rw [he] at howed ⊢
    exact { hx with owed := howed, idle := fun hup => absurd h hup }
  · rw [Port.owe_of_not_up h]
    refine { hx with idle := fun hup => ?_ }
    obtain ⟨hc, ho, hsilence, rfl⟩ := hx.idle hup
    exact ⟨hc, ho, hsilence, Nat.le_zero.1 hm⟩

theorem Port.keeps_owe (k : Nat) : Port.Keeps fun x => x.owe k :=
  ⟨fun x => x.state_owe k, fun hx => hx.owe (Nat.le_refl _) k⟩

theorem Port.keeps_countReceived : Port.Keeps Port.countReceived := .of_standing fun _ => rfl

theorem Port.keeps_countOverrun : Port.Keeps Port.countOverrun := .of_standing fun _ => rfl

theorem Port.keeps_sendHello : Port.Keeps Port.sendHello := .of_standing fun _ => rfl

theorem Port.keeps_restartTraining : Port.Keeps Port.restartTraining := .of_standing fun _ => rfl

/-- A HELLO of capacity 0 breaks the run (R172). -/
theorem Port.keeps_breakRun : Port.Keeps fun x => { x with run := 0 } := .of_standing fun _ => rfl

theorem Port.keeps_countMalformed : Port.Keeps Port.countMalformed where
  state := Port.state_countMalformed
  agrees hx := by
    unfold Port.countMalformed
    refine Port.Agrees.owe ?_ (Nat.le_refl _) 1
    exact hx.congr rfl

theorem Port.keeps_countMisdirected : Port.Keeps Port.countMisdirected where
  state := Port.state_countMisdirected
  agrees hx := by
    unfold Port.countMisdirected
    refine Port.Agrees.owe ?_ (Nat.le_refl _) 1
    exact hx.congr rfl

theorem Port.keeps_countCheckFailure : Port.Keeps Port.countCheckFailure where
  state := Port.state_countCheckFailure
  agrees hx := by
    unfold Port.countCheckFailure
    refine Port.Agrees.owe ?_ (Nat.le_refl _) 1
    exact hx.congr rfl

theorem Port.keeps_sendCredit : Port.Keeps Port.sendCredit where
  state _ := rfl
  agrees {x n} hx := by
    obtain ⟨hcredit, hpos, hle, howed, hidle⟩ := hx
    refine ⟨hcredit, hpos, hle, (Nat.sub_le _ _).trans howed, fun hup => ?_⟩
    obtain ⟨hc, ho, hquiet⟩ := hidle hup
    exact ⟨hc, by simp [Port.sendCredit, ho], hquiet⟩

theorem Port.keeps_transmit (item : LineItem) : Port.Keeps fun x => x.transmit item where
  state _ := rfl
  agrees {x n} hx := by
    obtain ⟨hcredit, hpos, hle, howed, hidle⟩ := hx
    refine ⟨(Nat.sub_le _ _).trans hcredit, hpos, hle, howed, fun hup => ?_⟩
    obtain ⟨hc, hquiet⟩ := hidle hup
    exact ⟨by simp [Port.transmit, hc], hquiet⟩

theorem Port.keeps_step : Port.Keeps Port.step where
  state _ := rfl
  agrees {x n} hx := by
    refine { hx with idle := fun hup => ?_ }
    obtain ⟨hc, ho, hsilence, hn⟩ := hx.idle hup
    exact ⟨hc, ho, congrArg Timer.step hsilence, hn⟩

/-! ### The entries into the states of a link (R171, R173, R175) -/

theorem Port.Agrees.enterTraining {x : Port} {n : Nat} (hx : x.Agrees n) : x.enterTraining.Agrees 0 :=
  ⟨Nat.zero_le _, hx.capacity_pos, hx.capacity_le, Nat.zero_le _, fun _ => ⟨rfl, rfl, rfl, rfl⟩⟩

theorem Port.Agrees.enterDown {x : Port} {n : Nat} (hx : x.Agrees n) : x.enterDown.Agrees 0 :=
  ⟨Nat.zero_le _, hx.capacity_pos, hx.capacity_le, Nat.zero_le _, fun _ => ⟨rfl, rfl, rfl, rfl⟩⟩

theorem Port.Agrees.enterUp {x : Port} {n : Nat} (hx : x.Agrees n) (m : Nat) : x.enterUp.Agrees m :=
  ⟨Nat.le_refl _, hx.capacity_pos, hx.capacity_le, Nat.zero_le _, fun h => absurd rfl h⟩

theorem Port.Agrees.countRetrain {x : Port} {n : Nat} (hx : x.Agrees n) : x.countRetrain.Agrees n := hx.congr rfl

/-- A HELLO in TRAINING gives the partner's capacity while there is no credit (R172). -/
theorem Port.Agrees.goodHello {x : Port} {n : Nat} (hx : x.Agrees n) (htraining : x.state = .training) {capacity : Nat}
    (hpos : capacity ≠ 0) (hle : capacity ≤ 15) (ready : Bool) : (x.goodHello capacity ready).Agrees n := by
  obtain ⟨hcredit, -, -, -⟩ := hx.idle (by simp [htraining])
  refine { hx with credit := ?_, capacity_pos := Nat.pos_of_ne_zero hpos, capacity_le := hle }
  exact hcredit.le.trans (Nat.zero_le _)

theorem helloCapacity_le (payload : Word) : helloCapacity payload ≤ 15 :=
  Nat.le_of_lt_succ (payload.extractLsb' 8 4).isLt

/-! ### Shared operations that leave the links -/

@[simp] theorem State.links_modTap (s : State) (k : Fin 4) (f : Tap → Tap) : (s.modTap k f).links = s.links := rfl

@[simp] theorem State.links_modBank (s : State) (b : BankId) (f : Bank → Bank) :
    (s.modBank b f).links = s.links := rfl

@[simp] theorem State.links_modAttention (s : State) (f : Attention → Attention) :
    (s.modAttention f).links = s.links := rfl

@[simp] theorem State.links_announceIfDue (s : State) : s.announceIfDue.links = s.links := by
  obtain ⟨_, h⟩ := s.announceIfDue_changes
  rw [h]
  rfl

@[simp] theorem State.links_raiseFlag (s : State) (n : Nat) : (s.raiseFlag n).links = s.links := by
  obtain ⟨_, h⟩ := s.raiseFlag_changes n
  rw [h]
  rfl

@[simp] theorem State.links_branchReset (s : State) : s.branchReset.links = s.links := rfl

@[simp] theorem State.links_answer (s : State) (i : Fin 16) (code : Code) (data : Option (List Word)) :
    (s.answer i code data).links = s.links := by
  obtain ⟨_, _, _, h⟩ := s.answer_changes i code data
  rw [h]
  rfl

@[simp] theorem State.links_answerAll (s : State) (is : List (Fin 16)) (code : Code) :
    (s.answerAll is code).links = s.links := by
  obtain ⟨_, _, _, h⟩ := s.answerAll_changes is code
  rw [h]
  rfl

@[simp] theorem State.links_freeRecord (s : State) (i : Fin 16) : (s.freeRecord i).links = s.links := by
  obtain ⟨_, _, h⟩ := s.freeRecord_changes i
  rw [h]
  rfl

@[simp] theorem State.links_finishMgmt (s : State) (i : Fin 3) (code : Code) (result : List Word) :
    (s.finishMgmt i code result).links = s.links := by
  obtain ⟨_, _, _, h⟩ := s.finishMgmt_changes i code result
  rw [h]
  rfl

@[simp] theorem State.links_endIssued (s : State) (k : Fin 4) (i : Fin 16) (r : TransRecord) (code : Code)
    (data : Option (List Word)) : (s.endIssued k i r code data).links = s.links := by
  obtain ⟨_, _, _, h⟩ := s.endIssued_changes k i r code data
  rw [h]
  rfl

@[simp] theorem State.links_completeDisable (s : State) (k : Fin 4) : (s.completeDisable k).links = s.links := by
  obtain ⟨_, _, h⟩ := s.completeDisable_changes k
  rw [h]
  rfl

@[simp] theorem State.links_takeStrobe (s : State) (k : Fin 4) (a : BitVec 2) : (s.takeStrobe k a).links = s.links := by
  obtain ⟨_, _, _, h⟩ := s.takeStrobe_changes k a
  rw [h]
  rfl

@[simp] theorem State.links_releaseData (s : State) (k : Fin 4) : (s.releaseData k).links = s.links := by
  obtain ⟨_, _, _, h⟩ := s.releaseData_changes k
  rw [h]
  rfl

@[simp] theorem State.links_takeDones (s : State) (k : Fin 4) (l : List Transfer) :
    (l.foldl (fun c x => c.takeDone k x) s).links = s.links := by
  obtain ⟨_, _, _, h⟩ := State.takeDones_changes k l s
  rw [h]
  rfl

/-! ### The tap ports leave the links -/

@[simp] theorem State.links_examine (s : State) (k : Fin 4) : (s.examine k).links = s.links := by
  unfold State.examine
  split
  · rfl
  split
  · rfl
  split
  · exact State.links_raiseFlag _ _
  · rfl

theorem State.links_riseOfAck (s : State) (k : Fin 4) (a : BitVec 2) : (s.riseOfAck k a).links = s.links := by
  unfold State.riseOfAck
  split <;> simp

theorem State.links_takeByte (s : State) (k : Fin 4) (b : Byte) : (s.takeByte k b).links = s.links := by
  unfold State.takeByte
  dsimp only
  split <;> simp

@[simp] theorem State.links_faultTap (s : State) (k : Fin 4) : (s.faultTap k).links = s.links := by
  unfold State.faultTap
  split <;> simp

theorem State.links_timeOut (s : State) (k : Fin 4) : (s.timeOut k).links = s.links := by
  unfold State.timeOut
  split
  · rfl
  split
  · rfl
  · simp [State.closeExchange]

theorem State.links_reissue (s : State) (k : Fin 4) : (s.reissue k).links = s.links := by
  unfold State.reissue
  split
  · rfl
  · split <;> rfl

theorem State.links_sampleLine (s : State) (k : Fin 4) (line : LineId) (level : Bool) :
    (s.sampleLine k line level).links = s.links := by
  unfold State.sampleLine
  split
  · rfl
  dsimp only
  split <;> simp

/-! ### Management operations that leave the links -/

theorem State.links_completeVerify (s : State) (i : Fin 3) (b : BankId) : (s.completeVerify i b).links = s.links := by
  unfold State.completeVerify
  split <;> simp

theorem State.links_clearGroup (s : State) (g : Group) : (s.clearGroup g).links = s.links := by
  cases g with
  | port p => cases p <;> rfl
  | tap k => rfl
  | branch => rfl

theorem readCountersBody_links (s : State) (ws : List Word) : ((readCountersBody s ws).state s).links = s.links := by
  unfold readCountersBody
  split
  · split
    · dsimp only [Begun.state_done]
      split
      · exact s.links_clearGroup _
      · rfl
    · rfl
  · rfl

theorem tapDisableBody_links (s : State) (ws : List Word) : ((tapDisableBody s ws).state s).links = s.links := by
  unfold tapDisableBody
  split
  · split
    · rfl
    · split <;> simp [State.disableAtOnce]
  · rfl

theorem discardHoldBody_links (s : State) (ws : List Word) : ((discardHoldBody s ws).state s).links = s.links := by
  unfold discardHoldBody
  split
  · split
    · rfl
    · split <;> simp
  · rfl

theorem readAttentionBody_links (s : State) (ws : List Word) : ((readAttentionBody s ws).state s).links = s.links := by
  unfold readAttentionBody
  split
  · split
    · rfl
    · dsimp only [Begun.state_done]
      split <;> rfl
  · rfl

theorem setAttentionEnablesBody_links (s : State) (ws : List Word) :
    ((setAttentionEnablesBody s ws).state s).links = s.links := by
  unfold setAttentionEnablesBody
  split
  · split <;> simp
  · rfl

theorem acknowledgeAttentionBody_links (s : State) (ws : List Word) :
    ((acknowledgeAttentionBody s ws).state s).links = s.links := by
  unfold acknowledgeAttentionBody
  split
  · split
    · rfl
    · split <;> simp
  · rfl

/-- An operation that edits a bank, a tap, a record, a watch or the flags, or pauses the classifier: on every way
through its body what the invariant looks at stays. -/
theorem editingBodies_links {body : State → List Word → Begun} (h : body ∈ editingBodies) (s : State)
    (ws : List Word) : ((body s ws).state s).links = s.links := by
  simp only [editingBodies, List.mem_cons, List.not_mem_nil, or_false] at h
  rcases h with rfl | rfl | rfl | rfl | rfl | rfl | rfl | rfl | rfl | rfl | rfl | rfl | rfl | rfl
  all_goals
    delta writeEntryBody clearBankBody setMissActionBody openBankBody selectBankBody clearHitCountsBody tapEnableBody
      tapRecoverBody setTapLinesBody setWatchBody disarmWatchBody releaseHoldBody clearAttentionBody branchResetBody
    repeat' split
    all_goals rfl

/-- Every operation but Set Parameter leaves the links, the enable and the credits of both ports. -/
theorem Op.links_body {op : Op} (hop : op ≠ .setParameter) (s : State) (ws : List Word) :
    ((op.body s ws).state s).links = s.links := by
  cases op with
  | setParameter => exact absurd rfl hop
  | readIdentity | readBranchStatus => rfl
  | readRecord => exact congrArg _ (readRecordBody_reads s ws)
  | readEntry => exact congrArg _ (readEntryBody_reads s ws)
  | verifyBank => exact congrArg _ (verifyBankBody_reads s ws)
  | readTapStatus => exact congrArg _ (readTapStatusBody_reads s ws)
  | readWatch => exact congrArg _ (readWatchBody_reads s ws)
  | readHeldRequest => exact congrArg _ (readHeldRequestBody_reads s ws)
  | readParameter => exact congrArg _ (readParameterBody_reads s ws)
  | readCounters => exact readCountersBody_links s ws
  | tapDisable => exact tapDisableBody_links s ws
  | discardHold => exact discardHoldBody_links s ws
  | readAttention => exact readAttentionBody_links s ws
  | setAttentionEnables => exact setAttentionEnablesBody_links s ws
  | acknowledgeAttention => exact acknowledgeAttentionBody_links s ws
  | writeEntry | clearBank | setMissAction | openBank | selectBank | clearHitCounts | tapEnable | tapRecover
  | setTapLines | setWatch | disarmWatch | releaseHold | clearAttention | branchReset =>
    exact editingBodies_links (by simp [editingBodies, Op.body]) s ws

theorem State.links_begin {op : Op} (hop : op ≠ .setParameter) (s : State) :
    (s.begin op op.body).links = s.links := by
  obtain ⟨u, v, rs, rs', rfl, hv, h⟩ := s.begin_outcome op op.body
  rw [h]
  obtain rfl | ⟨ws, rfl⟩ := hv
  · rfl
  · exact Op.links_body hop _ ws

/-! ### The classifier, and what follows a freed slot (R27, R40, R41, R43) -/

/-- The head packet leaves the upper receive buffer, and its slot is owed (R27, R179). -/
theorem State.portsAgree_disposeHead {s : State} (hs : s.PortsAgree) : s.disposeHead.PortsAgree := by
  obtain ⟨hup, henable, hu, hl⟩ := State.portsAgree_iff.1 hs
  refine State.portsAgree_iff.2 ⟨fun h => hup ((Port.state_owe _ _).symm.trans h), henable, hu.owe ?_ 1, hl⟩
  exact List.length_tail.trans_le (Nat.sub_le _ _)

theorem State.portsAgree_refuseHead {s : State} (hs : s.PortsAgree) (r : Refused) : (s.refuseHead r).PortsAgree := by
  unfold State.refuseHead
  split
  · exact State.portsAgree_disposeHead (hs.congr rfl)
  · exact hs.congr rfl

theorem State.portsAgree_passHead {s : State} (hs : s.PortsAgree) (p : Down) : (s.passHead p).PortsAgree := by
  unfold State.passHead
  split
  · split
    · exact State.portsAgree_disposeHead (hs.congr rfl)
    · exact hs.congr rfl
  · exact State.portsAgree_refuseHead hs _

theorem State.portsAgree_claimHead {s : State} (hs : s.PortsAgree) (b : BankId) (e : Fin 32) (w : Window)
    (q : Request) : (s.claimHead b e w q).PortsAgree := by
  unfold State.claimHead
  split
  · exact State.portsAgree_refuseHead hs _
  · split
    · exact State.portsAgree_disposeHead (hs.congr rfl)
    · exact hs

theorem State.portsAgree_classifyRequest {s : State} (hs : s.PortsAgree) (q : Request) :
    (s.classifyRequest q).PortsAgree := by
  unfold State.classifyRequest
  split
  · exact State.portsAgree_passHead hs _
  next b _ =>
    split
    · split
      · exact State.portsAgree_passHead hs _
      · exact State.portsAgree_refuseHead hs _
    next e _ =>
      split
      · exact hs
      · have hhit : (s.modBank b fun x => x.countHit e).PortsAgree := hs.congr rfl
        dsimp only
        split
        · exact State.portsAgree_passHead hhit _
        · exact State.portsAgree_refuseHead hhit _
        · exact State.portsAgree_claimHead hhit b e _ q

theorem State.portsAgree_classifyMgmt {s : State} (hs : s.PortsAgree) (m : MgmtPacket) :
    (s.classifyMgmt m).PortsAgree := by
  unfold State.classifyMgmt
  split
  · exact State.portsAgree_passHead hs _
  split
  · exact State.portsAgree_refuseHead hs _
  split
  · exact State.portsAgree_refuseHead hs _
  · exact State.portsAgree_disposeHead (hs.congr rfl)

theorem State.portsAgree_classify {s : State} (hs : s.PortsAgree) : s.classify.PortsAgree := by
  unfold State.classify
  split
  · exact hs
  split
  · exact hs
  · exact State.portsAgree_classifyRequest hs _
  · exact State.portsAgree_classifyMgmt hs _

theorem State.portsAgree_settle {s : State} (hs : s.PortsAgree) : s.settle.PortsAgree := by
  have hdrained : s.drain.PortsAgree := hs.congr rfl
  unfold State.settle State.endStall
  split
  · exact hdrained
  · split
    · exact State.portsAgree_disposeHead (hdrained.congr rfl)
    · exact hdrained
  · split
    · exact State.portsAgree_disposeHead (hdrained.congr rfl)
    · exact hdrained

/-! ### Link losses (R175 to R177) -/

theorem State.portsAgree_endSession {s : State} (hs : s.PortsAgree) : s.endSession.PortsAgree := by
  obtain ⟨-, henable, hu, hl⟩ := State.portsAgree_iff.1 hs
  have hlower : s.endSession.lower.state = s.lower.state := Port.state_owe _ _
  refine State.portsAgree_iff.2 ⟨LinkState.noConfusion, ?_, hu.countRetrain.enterTraining, hl.owe (Nat.zero_le _) _⟩
  rw [hlower]
  exact henable

/-- A lower link loss, whatever state it leaves the port in, so that the enable and the emptied buffer agree with it. -/
theorem State.portsAgree_loseLower {s : State} {next : Port → Port} (hup : s.upper.state ≠ .down)
    (hupper : s.upper.Agrees s.upperRx.length)
    (hdown : (next s.lower.countRetrain).state = .down ↔ s.mgmt.params.lowerEnable = false)
    (hlower : (next s.lower.countRetrain).Agrees 0) : (s.loseLower next).PortsAgree := by
  have hlost : (s.lowerLost next).PortsAgree := State.portsAgree_iff.2 ⟨hup, hdown, hupper, hlower⟩
  rw [State.loseLower_eq]
  exact (State.portsAgree_settle hlost).congr (State.links_raiseFlag _ _)

/-- A link is lost by a port in UP, so that the lower port that loses it is enabled. -/
theorem State.portsAgree_loseLink {s : State} (hs : s.PortsAgree) {p : PortId} (hp : (s.port p).state = .up) :
    (s.loseLink p).PortsAgree := by
  cases p with
  | upper =>
    have hlost : s.loseLink .upper = if s.mgmt.resetPending then s.endSession.branchReset else s.endSession := rfl
    rw [hlost]
    split
    · exact (State.portsAgree_endSession hs).congr (State.links_branchReset _)
    · exact State.portsAgree_endSession hs
  | lower =>
    obtain ⟨hup, henable, hu, hl⟩ := State.portsAgree_iff.1 hs
    have hnotDown : s.lower.state ≠ .down := fun h => LinkState.noConfusion (hp.symm.trans h)
    exact State.portsAgree_loseLower hup hu
      ⟨fun h => LinkState.noConfusion h, fun h => absurd (henable.2 h) hnotDown⟩ hl.countRetrain.enterTraining

/-! ### What a port receives (R161, R165, R172 to R175, R179) -/

theorem State.portsAgree_failCheck {s : State} (hs : s.PortsAgree) {p : PortId} (hp : (s.port p).state = .up) :
    (s.failCheck p).PortsAgree := by
  have hcounted := State.portsAgree_modPort hs Port.keeps_countCheckFailure p
  unfold State.failCheck
  dsimp only
  split
  · refine State.portsAgree_loseLink hcounted ?_
    rw [State.port_modPort_self, Port.state_countCheckFailure, hp]
  · exact hcounted

/-- A packet that enters the buffer of an upper port in UP. -/
theorem State.portsAgree_append_upperRx {s : State} (hs : s.PortsAgree) (hup : s.upper.state = .up) (q : Down) :
    ({ s with upperRx := s.upperRx ++ [q] } : State).PortsAgree := by
  obtain ⟨hnotDown, henable, hu, hl⟩ := State.portsAgree_iff.1 hs
  exact State.portsAgree_iff.2 ⟨hnotDown, henable, { hu with idle := fun h => absurd hup h }, hl⟩

/-- A packet that enters the buffer of a lower port in UP. -/
theorem State.portsAgree_append_lowerRx {s : State} (hs : s.PortsAgree) (hup : s.lower.state = .up) (u : Up) :
    ({ s with lowerRx := s.lowerRx ++ [u] } : State).PortsAgree := by
  obtain ⟨hnotDown, henable, hu, hl⟩ := State.portsAgree_iff.1 hs
  exact State.portsAgree_iff.2 ⟨hnotDown, henable, hu, { hl with idle := fun h => absurd hup h }⟩

theorem State.portsAgree_receiveUpper {s : State} (hs : s.PortsAgree) (hup : s.upper.state = .up)
    (chars : List PacketChar) : (s.receiveUpper chars).PortsAgree := by
  unfold State.receiveUpper
  split
  · exact State.portsAgree_failCheck (p := .upper) hs hup
  · exact State.portsAgree_modPort hs Port.keeps_countMalformed .upper
  · exact State.portsAgree_modPort hs Port.keeps_countMisdirected .upper
  next q _ =>
    have hcounted := State.portsAgree_modPort hs Port.keeps_countReceived .upper
    exact State.portsAgree_append_upperRx hcounted hup q

theorem State.portsAgree_relay {s : State} (hs : s.PortsAgree) (hup : s.lower.state = .up) (u : Up) :
    (s.relay u).PortsAgree := by
  have hcounted := State.portsAgree_modPort hs Port.keeps_countReceived .lower
  have howed := State.portsAgree_modPort hcounted (Port.keeps_owe 1) .lower
  unfold State.relay
  dsimp only
  split
  · exact howed
  split
  · exact howed.congr rfl
  · exact State.portsAgree_append_lowerRx hcounted hup u

theorem State.portsAgree_receiveLower {s : State} (hs : s.PortsAgree) (hup : s.lower.state = .up)
    (chars : List PacketChar) : (s.receiveLower chars).PortsAgree := by
  unfold State.receiveLower
  split
  · exact State.portsAgree_failCheck (p := .lower) hs hup
  · exact State.portsAgree_modPort hs Port.keeps_countMalformed .lower
  · exact State.portsAgree_modPort hs Port.keeps_countMisdirected .lower
  · exact State.portsAgree_relay hs hup _

theorem State.portsAgree_receivePacket {s : State} (hs : s.PortsAgree) (p : PortId) (chars : List PacketChar) :
    (s.receivePacket p chars).PortsAgree := by
  unfold State.receivePacket
  split
  · exact hs
  next hup =>
    have hheard := State.portsAgree_modPort hs Port.keeps_heard p
    have hstate : ((s.modPort p Port.heard).port p).state = .up := by
      rw [State.port_modPort_self, Port.state_heard]
      exact not_not.1 hup
    dsimp only
    split
    · exact State.portsAgree_modPort hheard Port.keeps_countOverrun p
    · cases p with
      | upper => exact State.portsAgree_receiveUpper hheard hstate chars
      | lower => exact State.portsAgree_receiveLower hheard hstate chars

/-- A port whose training is complete leaves TRAINING for UP (R173). -/
theorem State.portsAgree_completeTraining {s : State} (hs : s.PortsAgree) (p : PortId) :
    (s.completeTraining p).PortsAgree := by
  unfold State.completeTraining
  split
  next htrained =>
    have hstate : (s.port p).state = .training := by
      simp only [Port.trained, Bool.and_eq_true, beq_iff_eq] at htrained
      obtain ⟨⟨⟨hstate, -⟩, -⟩, -⟩ := htrained
      exact hstate
    have hup : (s.modPort p Port.enterUp).PortsAgree :=
      State.portsAgree_setPort hs (by simp [hstate, Port.enterUp]) ((hs.port p).enterUp _)
    cases p with
    | upper => exact hup.congr (State.links_announceIfDue _)
    | lower => exact hup.congr (State.links_raiseFlag _ _)
  · exact hs

theorem State.portsAgree_receiveHello {s : State} (hs : s.PortsAgree) (p : PortId) {capacity : Nat}
    (hle : capacity ≤ 15) (ready : Bool) : (s.receiveHello p capacity ready).PortsAgree := by
  unfold State.receiveHello
  split
  · exact hs
  next htraining =>
    split
    · exact State.portsAgree_modPort hs Port.keeps_breakRun p
    next hpos =>
      have hagrees := (hs.port p).goodHello htraining hpos hle ready
      have hhello : (s.modPort p fun x => x.goodHello capacity ready).PortsAgree :=
        State.portsAgree_setPort hs Iff.rfl hagrees
      exact State.portsAgree_completeTraining hhello p
  next hup =>
    split
    · exact State.portsAgree_modPort hs Port.keeps_heard p
    · exact State.portsAgree_loseLink hs hup

/-! ### The two transmitters (R180 to R182) -/

theorem State.portsAgree_transmitUp {s : State} (hs : s.PortsAgree) (u : Up) : (s.transmitUp u).PortsAgree :=
  State.portsAgree_modPort hs (Port.keeps_transmit (.up u)) .upper

theorem State.portsAgree_lowerSend {s : State} (hs : s.PortsAgree) (rest : List QueuedPass) (item : LineItem) :
    ({ s with lowerTx := rest, lower := s.lower.transmit item } : State).settle.PortsAgree := by
  have hsent := State.portsAgree_modPort hs (Port.keeps_transmit item) .lower
  exact State.portsAgree_settle (hsent.congr rfl)

theorem State.portsAgree_sendMgmtResponse {s : State} (hs : s.PortsAgree) : s.sendMgmtResponse.PortsAgree := by
  unfold State.sendMgmtResponse
  split
  · exact hs
  split
  · exact hs
  split
  · exact hs
  next r _ _ a _ =>
    have hsent := State.portsAgree_transmitUp hs (.mgmtDone r.tag 0 a.code a.result 0)
    dsimp only
    split <;> exact hsent.congr rfl

theorem State.portsAgree_sendLocalResponse {s : State} (hs : s.PortsAgree) : s.sendLocalResponse.PortsAgree := by
  unfold State.sendLocalResponse
  split
  · exact hs
  split
  · exact hs
  next r _ => exact (State.portsAgree_transmitUp hs r.packet).congr (State.links_freeRecord _ _)

theorem State.portsAgree_sendRefusal {s : State} (hs : s.PortsAgree) : s.sendRefusal.PortsAgree := by
  unfold State.sendRefusal
  split
  · exact hs
  next r _ _ => exact State.portsAgree_settle ((State.portsAgree_transmitUp hs r.packet).congr rfl)

/-- The relayed packet leaves the lower receive buffer, and its slot is owed (R156, R179). -/
theorem State.portsAgree_sendRelay {s : State} (hs : s.PortsAgree) : s.sendRelay.PortsAgree := by
  unfold State.sendRelay
  split
  · exact hs
  next u rest hrx =>
    obtain ⟨hup, henable, hu, hl⟩ := State.portsAgree_iff.1 (State.portsAgree_transmitUp hs u.relayed)
    have hless : rest.length ≤ s.lowerRx.length := by simp [hrx]
    refine State.portsAgree_iff.2 ⟨hup, ?_, hu, hl.owe hless 1⟩
    dsimp only
    rw [Port.state_owe]
    exact henable

theorem State.portsAgree_arbitrate {s : State} (hs : s.PortsAgree) : s.arbitrate.PortsAgree := by
  unfold State.arbitrate
  split
  · exact (State.portsAgree_transmitUp hs _).congr (State.links_modAttention _ _)
  split
  · exact State.portsAgree_sendMgmtResponse hs
  · exact State.portsAgree_sendLocalResponse hs
  · exact State.portsAgree_sendRefusal hs
  · exact State.portsAgree_sendRelay hs
  · exact hs

/-! ### The lower port's enable (R145, R171, R175) -/

/-- New parameters, with what the change of the enable does to the lower port: a lower port that the enable puts into
TRAINING was DOWN, and one that it takes DOWN was not. -/
theorem State.portsAgree_applyEnable {s : State} (hs : s.PortsAgree) (q : Params) :
    (({ s with mgmt := { s.mgmt with params := q } } : State).applyEnable s.mgmt.params.lowerEnable
      q.lowerEnable).PortsAgree := by
  obtain ⟨hup, henable, hu, hl⟩ := State.portsAgree_iff.1 hs
  unfold State.applyEnable
  split
  next hsame => exact State.portsAgree_iff.2 ⟨hup, hsame ▸ henable, hu, hl⟩
  next hchanged =>
    split
    next hon =>
      have hdown : s.lower.state = .down := henable.2 (by simpa [hon] using hchanged)
      obtain ⟨-, -, -, hempty⟩ := hl.idle (by simp [hdown])
      refine State.portsAgree_iff.2 ⟨hup, ?_, hu, hempty ▸ hl.enterTraining⟩
      simp [Port.enterTraining, hon]
    next hon =>
      have hoff : q.lowerEnable = false := Bool.eq_false_iff.2 hon
      split
      · exact State.portsAgree_loseLower hup hu ⟨fun _ => hoff, fun _ => rfl⟩ hl.countRetrain.enterDown
      next hnotUp =>
        obtain ⟨-, -, -, hempty⟩ := hl.idle hnotUp
        exact State.portsAgree_iff.2 ⟨hup, ⟨fun _ => hoff, fun _ => rfl⟩, hu, hempty ▸ hl.enterDown⟩

theorem State.portsAgree_setParameterBody {s : State} (hs : s.PortsAgree) (ws : List Word) :
    ((setParameterBody s ws).state s).PortsAgree := by
  unfold setParameterBody
  split
  · split
    · exact hs
    · dsimp only
      split
      · exact State.portsAgree_applyEnable hs _
      · exact hs
  · exact hs

theorem State.portsAgree_begin {s : State} (hs : s.PortsAgree) (op : Op) : (s.begin op op.body).PortsAgree := by
  by_cases hop : op = .setParameter
  · subst hop
    obtain ⟨u, v, rs, rs', rfl, hv, h⟩ := s.begin_outcome .setParameter (Op.body .setParameter)
    have hu : ({ s with records := rs } : State).PortsAgree := hs.congr rfl
    rw [h]
    obtain rfl | ⟨ws, rfl⟩ := hv
    · exact hu.congr rfl
    · exact (State.portsAgree_setParameterBody hu ws).congr rfl
  · exact hs.congr (State.links_begin hop s)

/-! ### Every command -/

theorem State.portsAgree_of_taken {s u t : State} (h : s.taken u = .next t) (hs : s.PortsAgree) (hu : u.PortsAgree) :
    t.PortsAgree := by
  rw [State.eq_of_taken h]
  split
  · exact hs
  · exact hu

/-- An event with a condition, whose effect when it holds keeps the ports in agreement. -/
theorem State.portsAgree_ite {s u : State} {c : Prop} [Decidable c] (hs : s.PortsAgree) (hu : c → u.PortsAgree) :
    (if c then u else s).PortsAgree := by
  split
  next hc => exact hu hc
  · exact hs

theorem State.portsAgree_exec {c : Instr} {s t : State} (hs : s.PortsAgree) (h : exec c s = .next t) :
    t.PortsAgree := by
  by_cases hop : c ∈ Op.catalogue.map Op.command
  · obtain ⟨op, -, rfl⟩ := List.mem_map.1 hop
    rw [s.exec_command] at h
    exact State.portsAgree_of_taken h hs (State.portsAgree_begin hs op)
  cases c with
  | powerUpReset =>
    obtain ⟨-, -, -, -, hreset, -⟩ := invariantsHoldAtReset
    cases h
    exact hreset.congr rfl
  | resetAsserted =>
    cases h
    exact hs.congr rfl
  | packetReceived port chars => exact State.portsAgree_of_taken h hs (State.portsAgree_receivePacket hs port chars)
  | helloReceived port payload =>
    refine State.portsAgree_of_taken h hs ?_
    split
    · exact State.portsAgree_receiveHello hs port (helloCapacity_le payload) _
    · exact State.portsAgree_modPort hs Port.keeps_damaged port
  | creditReceived port payload =>
    refine State.portsAgree_of_taken h hs ?_
    split
    · exact State.portsAgree_modPort hs Port.keeps_receiveCredit port
    · exact State.portsAgree_modPort hs Port.keeps_damaged port
  | idleReceived port payload =>
    refine State.portsAgree_of_taken h hs ?_
    split
    · exact State.portsAgree_modPort hs Port.keeps_heard port
    · exact State.portsAgree_modPort hs Port.keeps_damaged port
  | damagedSymbolReceived port =>
    exact State.portsAgree_of_taken h hs (State.portsAgree_modPort hs Port.keeps_damaged port)
  | helloPeriod port =>
    have hsent := State.portsAgree_modPort hs Port.keeps_sendHello port
    exact State.portsAgree_of_taken h hs
      (State.portsAgree_ite hs fun _ => State.portsAgree_completeTraining hsent port)
  | trainingRestart port =>
    exact State.portsAgree_of_taken h hs
      (State.portsAgree_ite hs fun _ => State.portsAgree_modPort hs Port.keeps_restartTraining port)
  | silenceTimeout port =>
    exact State.portsAgree_of_taken h hs (State.portsAgree_ite hs fun ⟨hup, _⟩ => State.portsAgree_loseLink hs hup)
  | sendCredit port =>
    exact State.portsAgree_of_taken h hs
      (State.portsAgree_ite hs fun _ => State.portsAgree_modPort hs Port.keeps_sendCredit port)
  | classifyPacket => exact State.portsAgree_of_taken h hs (State.portsAgree_classify hs)
  | lowerSend =>
    refine State.portsAgree_of_taken h hs ?_
    split
    · exact hs
    · exact State.portsAgree_ite hs fun _ => State.portsAgree_lowerSend hs _ _
  | arbiterSend =>
    exact State.portsAgree_of_taken h hs (State.portsAgree_ite hs fun _ => State.portsAgree_arbitrate hs)
  | examineHead tap =>
    exact State.portsAgree_of_taken h hs (State.portsAgree_ite hs fun _ => hs.congr (s.links_examine tap))
  | tapAcknowledge tap input =>
    refine State.portsAgree_of_taken h hs ?_
    cases input with
    | strobe k => exact hs.congr (s.links_riseOfAck tap k)
    | dataByte b => exact hs.congr (s.links_takeByte tap b)
    | release => exact hs.congr (s.links_releaseData tap)
  | ackTimeout tap =>
    exact State.portsAgree_of_taken h hs (State.portsAgree_ite hs fun _ => hs.congr (s.links_timeOut tap))
  | retryTimerExpiry tap =>
    exact State.portsAgree_of_taken h hs (State.portsAgree_ite hs fun _ => hs.congr (s.links_reissue tap))
  | waitTimerExpiry index =>
    refine State.portsAgree_of_taken h hs ?_
    split
    · exact hs
    · exact State.portsAgree_ite hs fun _ => hs.congr (s.links_answer index .waitExpired none)
  | attentionLineAsserted tap line =>
    exact State.portsAgree_of_taken h hs (hs.congr (s.links_sampleLine tap line true))
  | attentionLineReleased tap line =>
    exact State.portsAgree_of_taken h hs (hs.congr (s.links_sampleLine tap line false))
  | reAnnounce =>
    refine State.portsAgree_of_taken h hs ?_
    split
    · exact State.portsAgree_ite hs fun _ => hs.congr rfl
    · exact hs
  | verifyBankComplete =>
    refine State.portsAgree_of_taken h hs ?_
    split
    · exact hs.congr (s.links_completeVerify _ _)
    · exact hs
  | unknownOperation =>
    refine State.portsAgree_of_taken h hs ?_
    split
    · split
      · exact hs
      · exact hs.congr (State.links_finishMgmt _ _ _ _)
    · exact hs
  | _ => exact absurd (by decide) hop

/-- One microsecond counts the timers of both ports, and no stopped one (R184). -/
theorem State.portsAgree_tick {s : State} (hs : s.PortsAgree) : s.tick.PortsAgree := by
  unfold State.tick
  split
  · exact hs
  · have hupper := State.portsAgree_modPort hs Port.keeps_step .upper
    exact (State.portsAgree_modPort hupper Port.keeps_step .lower).congr rfl

/-- Settles O57: a microsecond counts stopped timers no further (`State.portsAgree_tick`), and every command keeps the
ports in agreement (`State.portsAgree_exec`). -/
theorem stepKeepsPortsAgree : Obligations.StepKeepsPortsAgree := by
  intro s t hs h
  unfold step at h
  split at h
  · cases h
    exact State.portsAgree_tick hs
  next c rest _ =>
    have hqueue : ({ s with pending := rest } : State).PortsAgree := hs.congr rfl
    exact State.portsAgree_exec hqueue h

end Sys2Proof.Machine

/-! ## The receipt checks, and the reset pin -/

namespace Sys2Proof.Machine

/-! ### The receipt checks in their order (R161, R162, R164, R187) -/

theorem isDownKind_iff (k : BitVec 4) : isDownKind k = true ↔ 1 ≤ k.toNat ∧ k.toNat ≤ 3 := by
  revert k
  decide

theorem isUpKind_iff (k : BitVec 4) : isUpKind k = true ↔ 9 ≤ k.toNat ∧ k.toNat ≤ 12 := by
  revert k
  decide

/-- A kind value that names no kind (R162, R188). -/
theorem not_kind_of_unnamed {k : BitVec 4} (h : k.toNat = 0 ∨ 4 ≤ k.toNat ∧ k.toNat ≤ 8 ∨ 13 ≤ k.toNat) :
    ¬ isDownKind k = true ∧ ¬ isUpKind k = true := by
  rw [isDownKind_iff, isUpKind_iff]
  omega

/-- A whole packet frames as its header, its words and the low half of its end, whose bits 31–16 are not looked at. -/
theorem frame_whole (header : Word) (rest : List Word) (payload : Word) :
    frame (.start header :: (rest.map .word ++ [.stop payload])) = some (header, rest, payload.extractLsb' 0 16) := by
  rw [frame, frameRest_whole]
  rfl

theorem frame_interrupted (header : Word) (rest : List Word) : frame (.start header :: rest.map .word) = none := by
  rw [frame, frameRest_interrupted]
  rfl

section Receipt

variable {α : Type} {right wrong : BitVec 4 → Bool} {parse : Word → List Word → Option α} {chars : List PacketChar}
  {header : Word} {rest : List Word} {check : BitVec 16}

/-- Check 1: an arrival that is no whole packet. -/
theorem receipt_of_unframed (h : frame chars = none) : receipt right wrong parse chars = .checkFailure := by
  rw [receipt, h]

/-- Check 1: a whole packet with another check sequence than its own. -/
theorem receipt_of_wrong_check (h : frame chars = some (header, rest, check))
    (hcheck : check ≠ checkSequence (header :: rest)) : receipt right wrong parse chars = .checkFailure := by
  rw [receipt, h]
  exact if_pos hcheck.symm

/-- Behind check 1 a packet meets the checks of its kind, direction first among the kinds that are named. -/
theorem receipt_of_check (h : frame chars = some (header, rest, check))
    (hcheck : check = checkSequence (header :: rest)) :
    receipt right wrong parse chars =
      if wrong (header.extractLsb' 28 4) then .misdirected
      else if right (header.extractLsb' 28 4) then ((parse header rest).map Receipt.good).getD .malformed
      else .malformed := by
  rw [receipt, h]
  simp only [hcheck, ne_eq, not_true_eq_false, if_false]
  cases parse header rest <;> rfl

/-- Checks 2 and 3: a packet of a kind that travels the other way. -/
theorem receipt_of_wrong_kind (h : frame chars = some (header, rest, check))
    (hcheck : check = checkSequence (header :: rest)) (hwrong : wrong (header.extractLsb' 28 4) = true) :
    receipt right wrong parse chars = .misdirected :=
  (receipt_of_check h hcheck).trans (if_pos hwrong)

/-- Check 2: a packet of no kind. -/
theorem receipt_of_no_kind (h : frame chars = some (header, rest, check))
    (hcheck : check = checkSequence (header :: rest)) (hwrong : ¬ wrong (header.extractLsb' 28 4) = true)
    (hright : ¬ right (header.extractLsb' 28 4) = true) : receipt right wrong parse chars = .malformed :=
  (receipt_of_check h hcheck).trans ((if_neg hwrong).trans (if_neg hright))

end Receipt

/-- Settles O9: what is no whole packet is not framed (`receipt_of_unframed`), and a whole one is held to its check
sequence first and to its kind then (`receipt_of_wrong_check`, `receipt_of_check`). -/
theorem receiptChecksComeInOrder : Obligations.ReceiptChecksComeInOrder := by
  refine ⟨fun header rest payload => ?whole, fun header rest => ?interrupted, fun _ _ => ?outside, fun _ => ?loneEnd⟩
  case whole =>
    have hframe := frame_whole header rest payload
    refine ⟨fun hcheck => ⟨receipt_of_wrong_check hframe hcheck, receipt_of_wrong_check hframe hcheck⟩,
      fun hcheck => ⟨fun hnone => ?_, fun hup => ?_, fun hdown => ?_⟩⟩
    · obtain ⟨hdown, hup⟩ := not_kind_of_unnamed hnone
      exact ⟨receipt_of_no_kind hframe hcheck hup hdown, receipt_of_no_kind hframe hcheck hdown hup⟩
    · exact receipt_of_wrong_kind hframe hcheck ((isUpKind_iff _).2 hup)
    · exact receipt_of_wrong_kind hframe hcheck ((isDownKind_iff _).2 hdown)
  case interrupted =>
    have hframe := frame_interrupted header rest
    exact ⟨receipt_of_unframed hframe, receipt_of_unframed hframe⟩
  case outside => exact ⟨receipt_of_unframed rfl, receipt_of_unframed rfl⟩
  case loneEnd => exact ⟨receipt_of_unframed rfl, receipt_of_unframed rfl⟩

/-! ### The reset pin held low (R191) -/

theorem State.tap_map (s : State) (f : Tap → Tap) (k : Fin 4) :
    ({ s with taps := s.taps.map f } : State).tap k = f (s.tap k) := by
  simp [State.tap]

/-- Every command but the reset's own two is taken by `State.taken`. -/
theorem State.exec_taken (c : Instr) (s : State) (hup : c ≠ .powerUpReset) (hasserted : c ≠ .resetAsserted) :
    ∃ t, exec c s = s.taken t := by
  cases c with
  | powerUpReset => exact absurd rfl hup
  | resetAsserted => exact absurd rfl hasserted
  | _ => exact ⟨_, rfl⟩

theorem State.exec_of_resetLow {c : Instr} {s : State} (hlow : s.resetLow = true) (hup : c ≠ .powerUpReset)
    (hasserted : c ≠ .resetAsserted) : exec c s = .next s := by
  obtain ⟨t, h⟩ := State.exec_taken c s hup hasserted
  rw [h, State.taken, if_pos hlow]

theorem State.tick_of_resetLow {s : State} (hlow : s.resetLow = true) : s.tick = s := if_pos hlow

theorem step_of_no_command {s : State} (h : s.pending = []) : step s = .next s.tick := by
  rw [step, h]

/-- Settles O5: the event lowers each tap's pins (`Tap.pinsLow`), and what follows is neither taken nor counted. -/
theorem resetAssertedLowersTheOutputs : Obligations.ResetAssertedLowersTheOutputs := by
  refine ⟨fun s => ⟨_, rfl, rfl, fun k => ?_⟩, fun c s hlow hup hasserted => ⟨?_, fun hempty => ?_⟩⟩
  · exact State.tap_map s Tap.pinsLow k
  · exact State.exec_of_resetLow hlow hup hasserted
  · rw [step_of_no_command hempty, State.tick_of_resetLow hlow]

end Sys2Proof.Machine

/-! ## The operations that read -/

namespace Sys2Proof.Machine

/-! ### A read, and a read refused (R130, R131) -/

/-- A command whose operation's body answers with result words and changes nothing. -/
theorem State.exec_reads {s : State} {i : Fin 3} {r : MgmtRecord} {op : Op} {ws result words : List Word}
    (h : s.Ready i r op ws) (hc : ws.length = op.operandCount)
    (hbody : op.body (s.startMgmt i r) ws = .done result (s.startMgmt i r)) (hwords : result = words) :
    exec op.command s = .next (s.mgmtAnswered i r .ok words) := by
  subst hwords
  exact (s.exec_command op).trans (State.taken_done h hc ⟨_, hbody, rfl, rfl⟩)

/-- A command whose operation's body refuses its operands. -/
theorem State.exec_refuses {s : State} {i : Fin 3} {r : MgmtRecord} {op : Op} {ws : List Word}
    (h : s.Ready i r op ws) (hc : ws.length = op.operandCount)
    (hbody : op.body (s.startMgmt i r) ws = .refuse .badOperand) :
    exec op.command s = .next (s.mgmtAnswered i r .badOperand []) :=
  (s.exec_command op).trans (State.taken_refuse h hc hbody)

theorem State.mgmtAt_startMgmt_self (s : State) (i : Fin 3) (r : MgmtRecord) :
    (s.startMgmt i r).mgmtAt i = some { r with state := .executing } :=
  s.mgmtAt_setMgmt_self i _

theorem State.mgmtAt_startMgmt_ne (s : State) {i j : Fin 3} (h : j ≠ i) (r : MgmtRecord) :
    (s.startMgmt i r).mgmtAt j = s.mgmtAt j :=
  s.mgmtAt_setMgmt_ne h _

/-! ### Read Branch Status (R136) -/

theorem selectorNum_eq (o : Option BankId) :
    selectorNum o = match o with | some .A => 0 | some .B => 1 | none => 2 := by
  rcases o with _ | _ | _ <;> rfl

theorem RecordTable.count_eq_toList (t : RecordTable) (f : TransRecord → Bool) :
    t.count f = t.trans.toList.countP fun o => o.any f := by
  rw [RecordTable.count_eq_countP, Vector.countP_toList]

/-- A management record's state as Read Branch Status gives it: its own record is EXECUTING. -/
theorem State.mgmtStateNum_startMgmt (s : State) (i : Fin 3) (r : MgmtRecord) (j : Fin 3) :
    mgmtStateNum ((s.startMgmt i r).mgmtAt j) = if j = i then 2 else
      match s.mgmtAt j with
      | none => 0
      | some x => match x.state with | .waiting => 1 | .executing => 2 | .answered => 3 := by
  split
  next h =>
    subst h
    rw [State.mgmtAt_startMgmt_self]
    rfl
  next h =>
    rw [State.mgmtAt_startMgmt_ne s h]
    cases s.mgmtAt j <;> rfl

/-! ### Read Record (R137, R138) -/

theorem toNat_one {v : Nat} (h : v < 2 ^ 32) : (one v).toNat = v := Nat.mod_eq_of_lt h

theorem readRecordBody_trans (s : State) (j : Fin 16) : readRecordBody s [one j.val] =
    .done (((s.transAt j).map s.transWords).getD [one 0]) s := by
  simp only [readRecordBody, index?_one j (by decide)]
  cases s.transAt j <;> rfl

/-- Record numbers 16 to 18 are those of M0 to M2. -/
theorem readRecordBody_mgmt (s : State) (j : Fin 3) : readRecordBody s [one (16 + j.val)] =
    .done (((s.mgmtAt j).map MgmtRecord.words).getD [one 0]) s := by
  have hnumber : (one (16 + j.val)).toNat = 16 + j.val := toNat_one (by omega)
  have hplace : index? 3 (16 + j.val - 16) = some j := by rw [Nat.add_sub_cancel_left, index?_val]
  simp only [readRecordBody, hnumber, index?_none (Nat.le_add_right 16 j.val), hplace]
  cases s.mgmtAt j <;> rfl

theorem readRecordBody_refused (s : State) {w : Word} (h : 19 ≤ w.toNat) :
    readRecordBody s [w] = .refuse .badOperand := by
  have htrans : index? 16 w.toNat = none := index?_none (by omega)
  have hmgmt : index? 3 (w.toNat - 16) = none := index?_none (by omega)
  simp only [readRecordBody, htrans, hmgmt]

/-- The wait timer's mark of Read Record is only given beside a wait that remains (log 22). -/
theorem State.waitFields_eq (s : State) (x : TransRecord) :
    optionalField 16 x.waitRemaining ++ [(1, (s.waitPaused x).toNat)] =
      match x.waitRemaining with
      | some n => [(1, 1), (16, n), (1, if (s.tap x.tap).state = .held then 1 else 0)]
      | none => [(1, 0), (16, 0), (1, 0)] := by
  unfold State.waitPaused
  cases x.waitRemaining with
  | none => rfl
  | some n => by_cases h : (s.tap x.tap).state = .held <;> simp [optionalField, h]

/-! ### The other reads (R20, R94, R104, R144) -/

theorem readEntryBody_eq (s : State) (b : BankId) (e : Fin 32) :
    readEntryBody s [one b.num, one e.val] = .done (entryWords (s.bank b).entries[e]) s := by
  simp only [readEntryBody, bank?_one, index?_entry]

theorem readEntryBody_refused (s : State) {b e : Word} (h : 2 ≤ b.toNat ∨ 32 ≤ e.toNat) :
    readEntryBody s [b, e] = .refuse .badOperand := by
  simp only [readEntryBody]
  split
  next hb he =>
    rcases h with h | h
    · exact absurd hb (by simp [bank?_none h])
    · exact absurd he (by simp [index?_none h])
  · rfl

theorem readWatchBody_eq (s : State) (k : Fin 2) : readWatchBody s [one k.val] = .done (watchWords (s.watch k)) s := by
  simp only [readWatchBody, index?_watch]

theorem readWatchBody_refused (s : State) {w : Word} (h : 2 ≤ w.toNat) :
    readWatchBody s [w] = .refuse .badOperand := by
  simp only [readWatchBody, index?_none h]

theorem readTapStatusBody_eq (s : State) (k : Fin 4) :
    readTapStatusBody s [one k.val] = .done (tapStatusWords (s.tap k) s.mgmt.params.ackLimit[k]) s := by
  simp only [readTapStatusBody, index?_tap]

theorem readTapStatusBody_refused (s : State) {w : Word} (h : 4 ≤ w.toNat) :
    readTapStatusBody s [w] = .refuse .badOperand := by
  simp only [readTapStatusBody, index?_none h]

/-- The width of "records held" is one of the two that R189 gives (log 16). -/
theorem recordsHeldWidth_eq : recordsHeldWidth = 4 ∨ recordsHeldWidth = 5 := by
  unfold recordsHeldWidth
  split
  · exact .inl rfl
  · exact .inr rfl

theorem readParameterBody_eq (s : State) {w : Word} {p : Param} (hp : w.toNat = p.num) :
    readParameterBody s [w] = .done [one (s.mgmt.params.get p)] s := by
  simp only [readParameterBody, param?_eq_some_iff.2 hp]

theorem Param.num_lt (p : Param) : p.num < 10 := by
  cases p <;> simp only [Param.num] <;> omega

theorem readParameterBody_refused (s : State) {w : Word} (h : 10 ≤ w.toNat) :
    readParameterBody s [w] = .refuse .badOperand := by
  simp only [readParameterBody]
  split
  · rfl
  next p hp =>
    have hnum := param?_eq_some_iff.1 hp
    have hlt := p.num_lt
    omega

/-- The parameter that an identifier names, with the value it holds (R142). -/
theorem Params.named {q : Params} {n v : Nat}
    (h : (n = 4 ∧ v = q.retryLimit) ∨ (n = 5 ∧ v = q.retryDelay) ∨ (n = 6 ∧ v = q.waitLimit) ∨
      (n = 7 ∧ v = q.reannounce) ∨ (n = 8 ∧ v = q.clearWhileHeld.toNat) ∨ (n = 9 ∧ v = q.lowerEnable.toNat) ∨
      (∃ k : Fin 4, n = k.val ∧ v = q.ackLimit[k])) : ∃ p : Param, n = p.num ∧ v = q.get p := by
  rcases h with h | h | h | h | h | h | ⟨k, h⟩
  · exact ⟨.retryLimit, h⟩
  · exact ⟨.retryDelay, h⟩
  · exact ⟨.waitLimit, h⟩
  · exact ⟨.reannounce, h⟩
  · exact ⟨.clearWhileHeld, h⟩
  · exact ⟨.lowerEnable, h⟩
  · exact ⟨.ackLimit k, h⟩

/-- Settles O51: each body answers with the words of what stands, in the state in which its record has been begun
(`State.exec_reads`); of that state only its own record tells (`State.mgmtStateNum_startMgmt`, `readRecordBody_mgmt`). -/
theorem readsChangeNothing : Obligations.ReadsChangeNothing := by
  intro s i r n
  refine ⟨fun h => State.exec_reads h rfl rfl rfl, fun h => ?status, fun j h => ⟨fun hfree => ?freeTrans,
    fun x hx => ⟨s.localAddress x, fun w l hw hl => State.localAddress_eq hw hl, ?trans⟩⟩,
    fun j h => ⟨fun hne hfree => ?freeMgmt, fun x hx => ?mgmt⟩, fun b e h => ?entry, fun k h => ?watch,
    fun k h => ⟨recordsHeldWidth, recordsHeldWidth_eq, ?tap⟩, fun v hv h => ?parameter,
    fun op ws hbad h => ?refused⟩
  case status =>
    refine State.exec_reads h rfl rfl ?_
    simp only [State.branchStatus, State.mgmtStateNum_startMgmt, selectorNum_eq, RecordTable.inState,
      RecordTable.count_eq_toList, Option.not_isNone, Attention.quiet]
    rfl
  case freeTrans =>
    exact State.exec_reads h rfl (readRecordBody_trans _ j) (by rw [State.transAt_startMgmt, hfree]; rfl)
  case trans =>
    refine State.exec_reads h rfl (readRecordBody_trans _ j) ?_
    rw [State.transAt_startMgmt, hx, Option.map_some, Option.getD_some, State.transWords, State.waitFields_eq]
    cases x.code <;> rfl
  case freeMgmt =>
    exact State.exec_reads h rfl (readRecordBody_mgmt _ j) (by rw [State.mgmtAt_startMgmt_ne s hne, hfree]; rfl)
  case mgmt =>
    have hrecord : (s.startMgmt i r).mgmtAt j = some x := by
      obtain ⟨rfl, rfl⟩ | ⟨hne, hx⟩ := hx
      · exact s.mgmtAt_startMgmt_self j r
      · exact (s.mgmtAt_startMgmt_ne hne r).trans hx
    refine State.exec_reads h rfl (readRecordBody_mgmt _ j) ?_
    rw [hrecord, Option.map_some, Option.getD_some, MgmtRecord.words]
    cases x.answer <;> rfl
  case entry => 
    refine State.exec_reads h rfl (readEntryBody_eq _ b e) ?_
    rw [State.bank_startMgmt]
    rfl
  case watch => exact State.exec_reads h rfl (readWatchBody_eq _ k) rfl
  case tap =>
    refine State.exec_reads h rfl (readTapStatusBody_eq _ k) ?_
    rw [State.tap_startMgmt, tapStatusWords]
    cases (s.tap k).queue.head? <;> rfl
  case parameter =>
    obtain ⟨p, hn, rfl⟩ := Params.named hv
    exact State.exec_reads h rfl (readParameterBody_eq _ hn) rfl
  case refused =>
    obtain ⟨rfl, rfl, hn⟩ | ⟨rfl, ⟨b, rfl⟩, hn⟩ | ⟨rfl, ⟨e, rfl⟩, hn⟩ | ⟨rfl, rfl, hn⟩ | ⟨rfl, rfl, hn⟩ |
      ⟨rfl, rfl, hn⟩ := hbad
    · exact State.exec_refuses h rfl (readRecordBody_refused _ hn)
    · exact State.exec_refuses h rfl (readEntryBody_refused _ (.inr hn))
    · exact State.exec_refuses h rfl (readEntryBody_refused _ (.inl hn))
    · exact State.exec_refuses h rfl (readWatchBody_refused _ hn)
    · exact State.exec_refuses h rfl (readTapStatusBody_refused _ hn)
    · exact State.exec_refuses h rfl (readParameterBody_refused _ hn)

end Sys2Proof.Machine

/-! ## The step on a queue that is not empty (its other case is `step_of_no_command`) -/

namespace Sys2Proof.Machine

theorem step_of_command {s : State} {c : Instr} {rest : List Instr} (h : s.pending = c :: rest) :
    step s = exec c { s with pending := rest } := by
  rw [step, h]

/-- Settles O1: the command at the front is run on the state whose queue is the rest (`step_of_command`); of the state
before, only the queue is replaced. -/
theorem stepTakesTheFrontCommand : Obligations.StepTakesTheFrontCommand := by
  intro c rest s
  exact step_of_command (s := { s with pending := c :: rest }) rfl

end Sys2Proof.Machine
